-- ==== Sys2Proof/Word.lean ====
section
/-! DEFINITION. The two word types of the machine (00_scope.md R9: "A *byte* is 8 bits, a *word* 16 bits"). -/

namespace Sys2Proof

/-- A byte: a general register, a memory cell, a bus value (R2, R9). -/
abbrev Byte := BitVec 8

/-- A word: `PC`, `SP`, a pair view, every bus address (R2, R9). -/
abbrev Word := BitVec 16

end Sys2Proof
end

