-- ==== Sys2Proof/Config.lean ====
section
/-! DEFINITION. The configuration record `CFG` (00_scope.md R5, R6).

Every parameter of R6 whose ground is not RNX is a field, the instruction table and the memory map among them; a
`Config` stands in the state and no tick changes it (10_state.md R45). `ROM_VALID` is a predicate on images, so it is an
argument of `loadRom` and no field of plain data. The constants below are the values RNX states, which "are not
parameters a configuration may change", and the sizes of a bank. -/

namespace Sys2Proof

/-! ## The instruction table -/

/-- The twelve first bytes with no entry in the instruction table of `CFG_REF` (30_encoding.md R155). -/
def unknownOpcodes : List Byte :=
  [0x10#8, 0xD3#8, 0xDB#8, 0xDD#8, 0xE3#8, 0xE4#8, 0xEB#8, 0xEC#8, 0xED#8, 0xF4#8, 0xFC#8, 0xFD#8]

/-- An instruction table, by its differences from opcode_table.json (R5, R6; log 15). An operation is named by the byte
`CFG_REF` encodes it with. `base` gives a first byte the operation of another one, or none where the table lacks it
(30_encoding.md R156); `cb` gives a CB-page byte the operation of another one. R156 and R396 speak of first bytes only:
that no table lacks a CB-page byte is a DESIGN CHOICE (log 15). -/
structure InstrTable where
  base : List (Byte × Option Byte)
  cb : List (Byte × Byte)
deriving DecidableEq, Repr

/-- The `CFG_REF` first byte of the operation a first byte selects; none where the table has no entry for it. -/
def InstrTable.row (t : InstrTable) (op : Byte) : Option Byte := (t.base.lookup op).getD (some op)

/-- The `CFG_REF` CB-page byte of the operation a CB-page byte selects; every one selects an operation (DESIGN CHOICE,
log 15). -/
def InstrTable.cbRow (t : InstrTable) (sub : Byte) : Byte := (t.cb.lookup sub).getD sub

/-- `INSTR_TABLE` of `CFG_REF` (R6). -/
def InstrTable.ref : InstrTable where
  base := []
  cb := []

/-! ## The memory map -/

/-- The addresses from `first` to `last`. -/
structure Range where
  first : Nat
  last : Nat
deriving DecidableEq, Repr

/-- Whether an address is in a range. -/
def Range.has (r : Range) (n : Nat) : Bool := decide (r.first ≤ n) && decide (n ≤ r.last)

/-- How many addresses a range has. -/
def Range.size (r : Range) : Nat := r.last + 1 - r.first

/-- Whether two ranges share no address. -/
def Range.apart (r q : Range) : Bool := decide (r.last < q.first) || decide (q.last < r.first)

/-- `MEMORY_MAP`: the bounds of the twelve regions, in the priority order of 20_memory.md R72, and `mirror_offset`. -/
structure MemoryMap where
  romFixed : Range
  romSwitch : Range
  vram : Range
  eram : Range
  wramFixed : Range
  wramSwitch : Range
  echo : Range
  oam : Range
  unmapped : Range
  io : Range
  hram : Range
  ie : Nat
  mirrorOffset : Nat
deriving DecidableEq, Repr

/-- `MEMORY_MAP` of `CFG_REF` (20_memory.md R72). -/
def MemoryMap.ref : MemoryMap where
  romFixed := ⟨0x0000, 0x3FFF⟩
  romSwitch := ⟨0x4000, 0x7FFF⟩
  vram := ⟨0x8000, 0x9FFF⟩
  eram := ⟨0xA000, 0xBFFF⟩
  wramFixed := ⟨0xC000, 0xCFFF⟩
  wramSwitch := ⟨0xD000, 0xDFFF⟩
  echo := ⟨0xE000, 0xFDFF⟩
  oam := ⟨0xFE00, 0xFE9F⟩
  unmapped := ⟨0xFEA0, 0xFEFF⟩
  io := ⟨0xFF00, 0xFF7F⟩
  hram := ⟨0xFF80, 0xFFFE⟩
  ie := 0xFFFF
  mirrorOffset := 0x2000

/-- The twelve regions in priority order. -/
def MemoryMap.ranges (m : MemoryMap) : List Range :=
  [m.romFixed, m.romSwitch, m.vram, m.eram, m.wramFixed, m.wramSwitch, m.echo, m.oam, m.unmapped, m.io, m.hram,
    ⟨m.ie, m.ie⟩]

/-- No region is larger than the array behind it (10_state.md R34). -/
def MemoryMap.fits (m : MemoryMap) : Bool :=
  decide (m.romFixed.size ≤ 0x4000) && decide (m.romSwitch.size ≤ 0x4000) && decide (m.vram.size ≤ 0x2000) &&
  decide (m.eram.size ≤ 0x2000) && decide (m.wramFixed.size ≤ 0x1000) && decide (m.wramSwitch.size ≤ 0x1000) &&
  decide (m.oam.size ≤ 0xA0) && decide (m.io.size ≤ 0x80) && decide (m.hram.size ≤ 0x7F)

/-- "Address range `[0x0000, 0x8000)` (ROM-backed)": no configuration changes that (20_memory.md R72, R75; R6). -/
def MemoryMap.romBacked (m : MemoryMap) : Bool :=
  decide (m.romFixed.last ≤ 0x7FFF) && decide (m.romSwitch.last ≤ 0x7FFF) &&
  decide (m.romFixed.size + m.romSwitch.size = 0x8000)

/-- The echo region "redirects to work RAM at `address − mirror_offset`" (20_memory.md R72, R80). That the two
work RAM windows are adjacent is a DESIGN CHOICE (log 15). -/
def MemoryMap.echoes (m : MemoryMap) : Bool :=
  decide (m.wramFixed.last + 1 = m.wramSwitch.first) && decide (m.wramFixed.first + m.mirrorOffset ≤ m.echo.first) &&
  decide (m.echo.last ≤ m.wramSwitch.last + m.mirrorOffset)

/-- The address space is closed and total and regions never overlap (20_memory.md R71, R72; 10_state.md R34): the
ranges are apart and have 0x10000 addresses together, none beyond 0xFFFF. `fits` and the target of `echoes`
are DEDUCED (log 15); that a map with an empty region, or with work RAM windows that are not adjacent, is refused is a
DESIGN CHOICE (log 15). -/
def MemoryMap.wellFormed (m : MemoryMap) : Bool :=
  decide (m.ranges.Pairwise fun r q => r.apart q = true) && decide ((m.ranges.map Range.size).sum = 0x10000) &&
  m.ranges.all (fun r => decide (r.first ≤ r.last) && decide (r.last ≤ 0xFFFF)) && m.romBacked && m.fits && m.echoes

/-! ## The SPU's registers on the bus -/

/-- The port operations of 62_spu.md R720, without their arguments. -/
inductive SpuOpKind
  | setVolume | setPitch | setAttack | setDecay | setSustain | setRelease | setVoiceAddr | keyOn | keyOff
  | setControl | setIrqAddr | setXferAddr | writeData | ackIrq
deriving DecidableEq, Repr

/-- Where a byte of an argument comes from: a constant, or the byte last written at an offset of the I/O file that
`SPU_IO_MAP` maps. -/
inductive ArgByte
  | const (v : Byte)
  | written (o : Nat)
deriving DecidableEq, Repr

/-- One address of `SPU_IO_MAP` (20_memory.md R102, 62_spu.md R723). A write there applies `op`, if the row has one, to
core `core`; the voice and the argument are assembled from the bytes named, low byte first (log 7). -/
structure SpuIoRow where
  addr : Word
  core : Nat
  op : Option SpuOpKind
  voice : List ArgByte
  arg : List ArgByte
deriving DecidableEq, Repr

/-! ## The record -/

/-- `RESET_REGS`: the byte registers after reset (R6; 10_state.md R60). -/
structure ResetRegs where
  a : Byte
  f : Byte
  b : Byte
  c : Byte
  d : Byte
  e : Byte
  h : Byte
  l : Byte
deriving DecidableEq, Repr

/-- The configuration record (R5, R6). -/
structure Config where
  /-- `INSTR_TABLE`. -/
  instrTable : InstrTable
  /-- `MEMORY_MAP`. -/
  memoryMap : MemoryMap
  /-- `RAM_BANKS`: 8 KiB external RAM banks, "model argument, 0 to 16". -/
  ramBanks : Nat
  /-- `WRAM_BANKS`: 4 KiB work RAM banks; bank 0 is the fixed one, bank 1 the one in the switchable window
  (20_memory.md R78, R79). -/
  wramBanks : Nat
  /-- `IO_ROMB`: address of the ROM bank register (20_memory.md R103). -/
  ioRomb : Word
  /-- `IO_RAMB`: address of the RAM bank register (20_memory.md R104). -/
  ioRamb : Word
  /-- `IO_RAMG`: address of the RAM enable register (20_memory.md R105). -/
  ioRamg : Word
  /-- `FB_WIDTH`. -/
  fbWidth : Nat
  /-- `LINE_CYCLES`, the budget of one VBLANK line. -/
  lineCycles : Nat
  /-- `SPRITES_PER_LINE`. -/
  spritesPerLine : Nat
  /-- `OAM_ENTRIES`. It does not size `OAM`: DESIGN CHOICE, log 18. -/
  oamEntries : Nat
  /-- `DIV_PERIOD`. -/
  divPeriod : Nat
  /-- `TIMA_PERIOD[0..3]`. -/
  timaPeriods : List Nat
  /-- `INT_VECTOR[0..4]`. -/
  intVectors : List Word
  /-- `INT_DISPATCH_CYCLES`. -/
  intDispatchCycles : Nat
  /-- `HALT_IDLE_CYCLES`. -/
  haltIdleCycles : Nat
  /-- `UNKNOWN_OP_CYCLES`. -/
  unknownOpCycles : Nat
  /-- `EI_DELAY = 1` (45_system.md R393); false is 0. That no greater delay can be configured is a DESIGN CHOICE (log 9). -/
  eiDelay : Bool
  /-- `HALT_WAKE_MASKED` (60_exceptions.md R512). -/
  haltWakeMasked : Bool
  /-- `RESET_PC`. -/
  resetPc : Word
  /-- `RESET_SP`. -/
  resetSp : Word
  /-- `RESET_REGS`. -/
  resetRegs : ResetRegs
  /-- `RESET_IO` by offset in the I/O file; an offset that is not listed has 0x00 (10_state.md R62). -/
  resetIo : List (Nat × Byte)
  /-- `N_VOICES`. -/
  nVoices : Nat
  /-- `SRAM_SAMPLES`. -/
  sramSamples : Nat
  /-- `ENV_MAX`. -/
  envMax : Nat
  /-- `ENV_STEP(R)` where it is not `R + 1`, the value `CFG_REF` gives every rate. -/
  envSteps : List (Nat × Nat)
  /-- `PITCH_ONE`: the units of `pos` in one sample (62_spu.md R714). For another value than 0x1000 it takes the place of
  the rules' 4096: DESIGN CHOICE, log 18. -/
  pitchOne : Nat
  /-- `REVERB_DELAY`. -/
  reverbDelay : Nat
  /-- `REVERB_GAIN`, in Q15. -/
  reverbGain : Int
  /-- `SPU_IRQ_LINE`: the bit of `IF` the SPU IRQ sets, if any (60_exceptions.md R525). -/
  spuIrqLine : Option (Fin 5)
  /-- `SPU_IO_MAP` (20_memory.md R102). -/
  spuIoMap : List SpuIoRow
  /-- `SPU_STEP_PERIOD`: machine ticks per SPU step (60_exceptions.md R503). -/
  spuStepPeriod : Nat
  /-- `N_SPU_CORES` (62_spu.md R725). -/
  nSpuCores : Nat
deriving DecidableEq, Repr

namespace Config

/-- `CFG_REF` (R6). The `OPEN` addresses and `RAM_BANKS` take the values the test vectors use ("test vectors use
0xFF70, 0xFF71, 0xFF72", "test vectors use 1"): DESIGN CHOICE, log 1, unsafe for a claim about another address. -/
def ref : Config where
  instrTable := InstrTable.ref
  memoryMap := MemoryMap.ref
  ramBanks := 1
  wramBanks := 2
  ioRomb := 0xFF70#16
  ioRamb := 0xFF71#16
  ioRamg := 0xFF72#16
  fbWidth := 160
  lineCycles := 456
  spritesPerLine := 10
  oamEntries := 40
  divPeriod := 256
  timaPeriods := [1024, 16, 64, 256]
  intVectors := [0x0040#16, 0x0048#16, 0x0050#16, 0x0058#16, 0x0060#16]
  intDispatchCycles := 20
  haltIdleCycles := 4
  unknownOpCycles := 4
  eiDelay := false
  haltWakeMasked := false
  resetPc := 0x0100#16
  resetSp := 0xFFFE#16
  resetRegs := { a := 0#8, f := 0#8, b := 0#8, c := 0#8, d := 0#8, e := 0#8, h := 0#8, l := 0#8 }
  resetIo := [(0x40, 0x91#8), (0x47, 0xFC#8), (0x48, 0xFF#8), (0x49, 0xFF#8)]
  nVoices := 24
  sramSamples := 262144
  envMax := 0x7FFF
  envSteps := []
  pitchOne := 0x1000
  reverbDelay := 1024
  reverbGain := 0x2000
  spuIrqLine := none
  spuIoMap := []
  spuStepPeriod := 1
  nSpuCores := 1

/-! ## Parameters by index -/

/-- `TIMA_PERIOD[i]`. -/
def timaPeriod (c : Config) (i : Nat) : Nat := c.timaPeriods.getD i 1

/-- The longest of the four periods: `tima_sub` stays below it (10_state.md R36 for `CFG_REF`: 0 to 1023). -/
def timaSubRange (c : Config) : Nat := c.timaPeriods.foldr max 1

/-- `INT_VECTOR[n]`. -/
def intVector (c : Config) (n : Nat) : Word := c.intVectors.getD n 0#16

/-- The byte of `RESET_IO` at an offset of the I/O file. -/
def resetIoByte (c : Config) (o : Nat) : Byte := (c.resetIo.lookup o).getD 0#8

/-- `ENV_STEP(R)` (62_spu.md R701, R710). -/
def envStep (c : Config) (rate : Nat) : Nat := (c.envSteps.lookup rate).getD (rate + 1)

/-- The row of `SPU_IO_MAP` at an offset of the I/O file, if it has one. -/
def spuRow (c : Config) (o : Nat) : Option SpuIoRow :=
  c.spuIoMap.find? fun r => decide (r.addr.toNat = c.memoryMap.io.first + o)

/-! ## Well-formedness -/

/-- The I/O-file offsets "the fixed rows of rule R86" use (20_memory.md R86). -/
def fixedIoOffsets : List Nat :=
  [0x00, 0x01, 0x02, 0x04, 0x05, 0x06, 0x07, 0x0F] ++ [0x40, 0x41, 0x42, 0x43, 0x44, 0x45, 0x46, 0x47] ++
  [0x48, 0x49, 0x4A, 0x4B]

/-- An address the host may give a bank-control register or an SPU register: in the I/O file and not used by a
fixed row (20_memory.md R106). -/
def freeIoAddress (c : Config) (a : Word) : Bool :=
  c.memoryMap.io.has a.toNat && !fixedIoOffsets.contains (a.toNat - c.memoryMap.io.first)

/-- The addresses R106 constrains. -/
def openAddresses (c : Config) : List Word := [c.ioRomb, c.ioRamb, c.ioRamg] ++ c.spuIoMap.map SpuIoRow.addr

/-- An instruction table names operations of opcode_table.json: no entry stands for a byte without one (log 15). -/
def tableNamesOperations (c : Config) : Bool :=
  c.instrTable.base.all fun r => r.2.all fun op => !unknownOpcodes.contains op

/-- Lists have their lengths, periods and sizes are not zero, the work RAM has the banks R78 and R79 name, and the state after reset keeps `F[3:0] = 0`
(10_state.md R24) and an enabled pipeline (R62). DEDUCED (log 8, log 15), safe. -/
def sane (c : Config) : Bool :=
  decide (1 ≤ c.spuStepPeriod) && decide (1 ≤ c.nSpuCores) && decide (1 ≤ c.divPeriod) &&
  decide (c.timaPeriods.length = 4) && c.timaPeriods.all (fun n => decide (1 ≤ n)) &&
  decide (c.intVectors.length = 5) && decide (1 ≤ c.lineCycles) && decide (1 ≤ c.haltIdleCycles) &&
  decide (1 ≤ c.unknownOpCycles) && decide (1 ≤ c.sramSamples) && decide (1 ≤ c.pitchOne) &&
  decide (1 ≤ c.reverbDelay) && decide (2 ≤ c.wramBanks) && decide (c.resetRegs.f &&& 0x0F#8 = 0#8) && (c.resetIoByte 0x40).getLsbD 7

/-- A configuration `Construct` accepts (20_memory.md R106; 70_reset_and_hazards.md R831: "violates R106, or has
`RAM_BANKS > 16`, is refused"), with a map and a table the rules can be read on (log 8, log 15). -/
def wellFormed (c : Config) : Bool :=
  c.openAddresses.all c.freeIoAddress && decide c.openAddresses.Nodup && decide (c.ramBanks ≤ 16) &&
  c.memoryMap.wellFormed && c.tableNamesOperations && c.sane

/-! ## Free values -/

/-- What a bus read at an address of `SPU_IO_MAP` answers, by the count of free values and the offset: "read: per map"
(20_memory.md R86), and no rule gives the value (log 16). -/
opaque spuMapRead : Nat → Nat → Byte

/-! ## Values no configuration changes -/

/-- Bytes of a ROM bank (20_memory.md R72; 00_scope.md R6: "16 KiB ROM banks"). -/
def romBankSize : Nat := 0x4000
/-- Bytes of an external RAM bank (R6: "8 KiB external RAM banks"). -/
def ramBankSize : Nat := 0x2000
/-- `MODE_BUDGET` of OAM_SCAN, from RNX (R6). -/
def oamScanCycles : Nat := 80
/-- `MODE_BUDGET` of PIXEL_TRANSFER, from RNX (R6). -/
def pixelTransferCycles : Nat := 172
/-- `MODE_BUDGET` of HBLANK, from RNX (R6). -/
def hblankCycles : Nat := 204
/-- `VISIBLE_LINES`, from RNX (R6). -/
def visibleLines : Nat := 144

end Config

end Sys2Proof
end

