-- ==== Sys2Proof/WellFormed.lean ====
section
/-! DEFINITION. The well-formed instructions: those an encoding of `CFG_REF` stands for as itself.

Two checks. An `unknown` carries one of the twelve first bytes the table leaves out (30_encoding.md R155). A
`prefixCb` is never an instruction of its own: its two bytes are the CB-page instruction (R157). Every other
constructor is well formed with every operand: no immediate is restricted (R143, R144). -/

namespace Sys2Proof

/-- Well-formedness, decidable. -/
def Instr.wellFormed : Instr → Bool
  | .unknown op => unknownOpcodes.contains op
  | .prefixCb _ => false
  | _ => true

end Sys2Proof
end

