-- ==== Sys2Proof/Decode.lean ====
section
/-! DEFINITION. Decoding and encoding.

The decoder follows the field decomposition of 30_encoding.md (R141, R142, R152, R154, R155); the encoder after it
lists the opcode byte of every constructor as the `match` of its row of opcode_table.json. The two are written from
different texts of the spec, so that their agreement (`DecodeInvertsEncode`) checks one against the other. -/

namespace Sys2Proof

/-! ## Instructions by operand index: the rows of the opcode table that differ in one field only -/

/-- `LD r8[y],r8[z]`, R200. -/
def Instr.ldRegReg : Reg8 → Reg8 → Instr
  | .b, .b => .ld_B_B
  | .b, .c => .ld_B_C
  | .b, .d => .ld_B_D
  | .b, .e => .ld_B_E
  | .b, .h => .ld_B_H
  | .b, .l => .ld_B_L
  | .b, .a => .ld_B_A
  | .c, .b => .ld_C_B
  | .c, .c => .ld_C_C
  | .c, .d => .ld_C_D
  | .c, .e => .ld_C_E
  | .c, .h => .ld_C_H
  | .c, .l => .ld_C_L
  | .c, .a => .ld_C_A
  | .d, .b => .ld_D_B
  | .d, .c => .ld_D_C
  | .d, .d => .ld_D_D
  | .d, .e => .ld_D_E
  | .d, .h => .ld_D_H
  | .d, .l => .ld_D_L
  | .d, .a => .ld_D_A
  | .e, .b => .ld_E_B
  | .e, .c => .ld_E_C
  | .e, .d => .ld_E_D
  | .e, .e => .ld_E_E
  | .e, .h => .ld_E_H
  | .e, .l => .ld_E_L
  | .e, .a => .ld_E_A
  | .h, .b => .ld_H_B
  | .h, .c => .ld_H_C
  | .h, .d => .ld_H_D
  | .h, .e => .ld_H_E
  | .h, .h => .ld_H_H
  | .h, .l => .ld_H_L
  | .h, .a => .ld_H_A
  | .l, .b => .ld_L_B
  | .l, .c => .ld_L_C
  | .l, .d => .ld_L_D
  | .l, .e => .ld_L_E
  | .l, .h => .ld_L_H
  | .l, .l => .ld_L_L
  | .l, .a => .ld_L_A
  | .a, .b => .ld_A_B
  | .a, .c => .ld_A_C
  | .a, .d => .ld_A_D
  | .a, .e => .ld_A_E
  | .a, .h => .ld_A_H
  | .a, .l => .ld_A_L
  | .a, .a => .ld_A_A

/-- `LD r8[y],(HL)`, R201. -/
def Instr.ldRegMem : Reg8 → Instr
  | .b => .ld_B_atHL
  | .c => .ld_C_atHL
  | .d => .ld_D_atHL
  | .e => .ld_E_atHL
  | .h => .ld_H_atHL
  | .l => .ld_L_atHL
  | .a => .ld_A_atHL

/-- `LD (HL),r8[z]`, R202. -/
def Instr.ldMemReg : Reg8 → Instr
  | .b => .ld_atHL_B
  | .c => .ld_atHL_C
  | .d => .ld_atHL_D
  | .e => .ld_atHL_E
  | .h => .ld_atHL_H
  | .l => .ld_atHL_L
  | .a => .ld_atHL_A

/-- `LD r8[y],d8`, R203. -/
def Instr.ldRegImm : Reg8 → Byte → Instr
  | .b, v => .ld_B_d8 v
  | .c, v => .ld_C_d8 v
  | .d, v => .ld_D_d8 v
  | .e, v => .ld_E_d8 v
  | .h, v => .ld_H_d8 v
  | .l, v => .ld_L_d8 v
  | .a, v => .ld_A_d8 v

/-- `LD rp[p],d16`, R220. -/
def Instr.ldPairImm : Pair → Word → Instr
  | .bc, v => .ld_BC_d16 v
  | .de, v => .ld_DE_d16 v
  | .hl, v => .ld_HL_d16 v
  | .sp, v => .ld_SP_d16 v

/-- `PUSH rp2[p]`, R230. -/
def Instr.push : StackPair → Instr
  | .bc => .push_BC
  | .de => .push_DE
  | .hl => .push_HL
  | .af => .push_AF

/-- `POP rp2[p]`, R231. -/
def Instr.pop : StackPair → Instr
  | .bc => .pop_BC
  | .de => .pop_DE
  | .hl => .pop_HL
  | .af => .pop_AF

/-- `alu[y] A,r8[z]`, the register form of R276. -/
def Instr.aluReg : AluOp → Reg8 → Instr
  | .add, .b => .add_A_B
  | .add, .c => .add_A_C
  | .add, .d => .add_A_D
  | .add, .e => .add_A_E
  | .add, .h => .add_A_H
  | .add, .l => .add_A_L
  | .add, .a => .add_A_A
  | .adc, .b => .adc_A_B
  | .adc, .c => .adc_A_C
  | .adc, .d => .adc_A_D
  | .adc, .e => .adc_A_E
  | .adc, .h => .adc_A_H
  | .adc, .l => .adc_A_L
  | .adc, .a => .adc_A_A
  | .sub, .b => .sub_B
  | .sub, .c => .sub_C
  | .sub, .d => .sub_D
  | .sub, .e => .sub_E
  | .sub, .h => .sub_H
  | .sub, .l => .sub_L
  | .sub, .a => .sub_A
  | .sbc, .b => .sbc_A_B
  | .sbc, .c => .sbc_A_C
  | .sbc, .d => .sbc_A_D
  | .sbc, .e => .sbc_A_E
  | .sbc, .h => .sbc_A_H
  | .sbc, .l => .sbc_A_L
  | .sbc, .a => .sbc_A_A
  | .and, .b => .and_B
  | .and, .c => .and_C
  | .and, .d => .and_D
  | .and, .e => .and_E
  | .and, .h => .and_H
  | .and, .l => .and_L
  | .and, .a => .and_A
  | .xor, .b => .xor_B
  | .xor, .c => .xor_C
  | .xor, .d => .xor_D
  | .xor, .e => .xor_E
  | .xor, .h => .xor_H
  | .xor, .l => .xor_L
  | .xor, .a => .xor_A
  | .or, .b => .or_B
  | .or, .c => .or_C
  | .or, .d => .or_D
  | .or, .e => .or_E
  | .or, .h => .or_H
  | .or, .l => .or_L
  | .or, .a => .or_A
  | .cp, .b => .cp_B
  | .cp, .c => .cp_C
  | .cp, .d => .cp_D
  | .cp, .e => .cp_E
  | .cp, .h => .cp_H
  | .cp, .l => .cp_L
  | .cp, .a => .cp_A

/-- `alu[y] A,(HL)`, the memory form of R276. -/
def Instr.aluMem : AluOp → Instr
  | .add => .add_A_atHL
  | .adc => .adc_A_atHL
  | .sub => .sub_atHL
  | .sbc => .sbc_A_atHL
  | .and => .and_atHL
  | .xor => .xor_atHL
  | .or => .or_atHL
  | .cp => .cp_atHL

/-- `alu[y] A,d8`, the immediate form of R276. -/
def Instr.aluImm : AluOp → Byte → Instr
  | .add, v => .add_A_d8 v
  | .adc, v => .adc_A_d8 v
  | .sub, v => .sub_d8 v
  | .sbc, v => .sbc_A_d8 v
  | .and, v => .and_d8 v
  | .xor, v => .xor_d8 v
  | .or, v => .or_d8 v
  | .cp, v => .cp_d8 v

/-- `INC r8[y]`, R268. -/
def Instr.incReg : Reg8 → Instr
  | .b => .inc_B
  | .c => .inc_C
  | .d => .inc_D
  | .e => .inc_E
  | .h => .inc_H
  | .l => .inc_L
  | .a => .inc_A

/-- `DEC r8[y]`, R270. -/
def Instr.decReg : Reg8 → Instr
  | .b => .dec_B
  | .c => .dec_C
  | .d => .dec_D
  | .e => .dec_E
  | .h => .dec_H
  | .l => .dec_L
  | .a => .dec_A

/-- `ADD HL,rp[p]`, R300. -/
def Instr.addHl : Pair → Instr
  | .bc => .add_HL_BC
  | .de => .add_HL_DE
  | .hl => .add_HL_HL
  | .sp => .add_HL_SP

/-- `INC rp[p]`, R301. -/
def Instr.incPair : Pair → Instr
  | .bc => .inc_BC
  | .de => .inc_DE
  | .hl => .inc_HL
  | .sp => .inc_SP

/-- `DEC rp[p]`, R302. -/
def Instr.decPair : Pair → Instr
  | .bc => .dec_BC
  | .de => .dec_DE
  | .hl => .dec_HL
  | .sp => .dec_SP

/-- `rot[y] r8[z]`, register form, R329 to R337. -/
def Instr.rotReg : RotOp → Reg8 → Instr
  | .rlc, .b => .rlc_B
  | .rlc, .c => .rlc_C
  | .rlc, .d => .rlc_D
  | .rlc, .e => .rlc_E
  | .rlc, .h => .rlc_H
  | .rlc, .l => .rlc_L
  | .rlc, .a => .rlc_A
  | .rrc, .b => .rrc_B
  | .rrc, .c => .rrc_C
  | .rrc, .d => .rrc_D
  | .rrc, .e => .rrc_E
  | .rrc, .h => .rrc_H
  | .rrc, .l => .rrc_L
  | .rrc, .a => .rrc_A
  | .rl, .b => .rl_B
  | .rl, .c => .rl_C
  | .rl, .d => .rl_D
  | .rl, .e => .rl_E
  | .rl, .h => .rl_H
  | .rl, .l => .rl_L
  | .rl, .a => .rl_A
  | .rr, .b => .rr_B
  | .rr, .c => .rr_C
  | .rr, .d => .rr_D
  | .rr, .e => .rr_E
  | .rr, .h => .rr_H
  | .rr, .l => .rr_L
  | .rr, .a => .rr_A
  | .sla, .b => .sla_B
  | .sla, .c => .sla_C
  | .sla, .d => .sla_D
  | .sla, .e => .sla_E
  | .sla, .h => .sla_H
  | .sla, .l => .sla_L
  | .sla, .a => .sla_A
  | .sra, .b => .sra_B
  | .sra, .c => .sra_C
  | .sra, .d => .sra_D
  | .sra, .e => .sra_E
  | .sra, .h => .sra_H
  | .sra, .l => .sra_L
  | .sra, .a => .sra_A
  | .swap, .b => .swap_B
  | .swap, .c => .swap_C
  | .swap, .d => .swap_D
  | .swap, .e => .swap_E
  | .swap, .h => .swap_H
  | .swap, .l => .swap_L
  | .swap, .a => .swap_A
  | .srl, .b => .srl_B
  | .srl, .c => .srl_C
  | .srl, .d => .srl_D
  | .srl, .e => .srl_E
  | .srl, .h => .srl_H
  | .srl, .l => .srl_L
  | .srl, .a => .srl_A

/-- `rot[y] (HL)`, R329 to R337. -/
def Instr.rotMem : RotOp → Instr
  | .rlc => .rlc_atHL
  | .rrc => .rrc_atHL
  | .rl => .rl_atHL
  | .rr => .rr_atHL
  | .sla => .sla_atHL
  | .sra => .sra_atHL
  | .swap => .swap_atHL
  | .srl => .srl_atHL

/-- `BIT b,r8[z]`, register form, R338. -/
def Instr.bitReg : Index3 → Reg8 → Instr
  | .i0, .b => .bit_0_B
  | .i0, .c => .bit_0_C
  | .i0, .d => .bit_0_D
  | .i0, .e => .bit_0_E
  | .i0, .h => .bit_0_H
  | .i0, .l => .bit_0_L
  | .i0, .a => .bit_0_A
  | .i1, .b => .bit_1_B
  | .i1, .c => .bit_1_C
  | .i1, .d => .bit_1_D
  | .i1, .e => .bit_1_E
  | .i1, .h => .bit_1_H
  | .i1, .l => .bit_1_L
  | .i1, .a => .bit_1_A
  | .i2, .b => .bit_2_B
  | .i2, .c => .bit_2_C
  | .i2, .d => .bit_2_D
  | .i2, .e => .bit_2_E
  | .i2, .h => .bit_2_H
  | .i2, .l => .bit_2_L
  | .i2, .a => .bit_2_A
  | .i3, .b => .bit_3_B
  | .i3, .c => .bit_3_C
  | .i3, .d => .bit_3_D
  | .i3, .e => .bit_3_E
  | .i3, .h => .bit_3_H
  | .i3, .l => .bit_3_L
  | .i3, .a => .bit_3_A
  | .i4, .b => .bit_4_B
  | .i4, .c => .bit_4_C
  | .i4, .d => .bit_4_D
  | .i4, .e => .bit_4_E
  | .i4, .h => .bit_4_H
  | .i4, .l => .bit_4_L
  | .i4, .a => .bit_4_A
  | .i5, .b => .bit_5_B
  | .i5, .c => .bit_5_C
  | .i5, .d => .bit_5_D
  | .i5, .e => .bit_5_E
  | .i5, .h => .bit_5_H
  | .i5, .l => .bit_5_L
  | .i5, .a => .bit_5_A
  | .i6, .b => .bit_6_B
  | .i6, .c => .bit_6_C
  | .i6, .d => .bit_6_D
  | .i6, .e => .bit_6_E
  | .i6, .h => .bit_6_H
  | .i6, .l => .bit_6_L
  | .i6, .a => .bit_6_A
  | .i7, .b => .bit_7_B
  | .i7, .c => .bit_7_C
  | .i7, .d => .bit_7_D
  | .i7, .e => .bit_7_E
  | .i7, .h => .bit_7_H
  | .i7, .l => .bit_7_L
  | .i7, .a => .bit_7_A

/-- `BIT b,(HL)`, R338. -/
def Instr.bitMem : Index3 → Instr
  | .i0 => .bit_0_atHL
  | .i1 => .bit_1_atHL
  | .i2 => .bit_2_atHL
  | .i3 => .bit_3_atHL
  | .i4 => .bit_4_atHL
  | .i5 => .bit_5_atHL
  | .i6 => .bit_6_atHL
  | .i7 => .bit_7_atHL

/-- `RES b,r8[z]`, register form, R339. -/
def Instr.resReg : Index3 → Reg8 → Instr
  | .i0, .b => .res_0_B
  | .i0, .c => .res_0_C
  | .i0, .d => .res_0_D
  | .i0, .e => .res_0_E
  | .i0, .h => .res_0_H
  | .i0, .l => .res_0_L
  | .i0, .a => .res_0_A
  | .i1, .b => .res_1_B
  | .i1, .c => .res_1_C
  | .i1, .d => .res_1_D
  | .i1, .e => .res_1_E
  | .i1, .h => .res_1_H
  | .i1, .l => .res_1_L
  | .i1, .a => .res_1_A
  | .i2, .b => .res_2_B
  | .i2, .c => .res_2_C
  | .i2, .d => .res_2_D
  | .i2, .e => .res_2_E
  | .i2, .h => .res_2_H
  | .i2, .l => .res_2_L
  | .i2, .a => .res_2_A
  | .i3, .b => .res_3_B
  | .i3, .c => .res_3_C
  | .i3, .d => .res_3_D
  | .i3, .e => .res_3_E
  | .i3, .h => .res_3_H
  | .i3, .l => .res_3_L
  | .i3, .a => .res_3_A
  | .i4, .b => .res_4_B
  | .i4, .c => .res_4_C
  | .i4, .d => .res_4_D
  | .i4, .e => .res_4_E
  | .i4, .h => .res_4_H
  | .i4, .l => .res_4_L
  | .i4, .a => .res_4_A
  | .i5, .b => .res_5_B
  | .i5, .c => .res_5_C
  | .i5, .d => .res_5_D
  | .i5, .e => .res_5_E
  | .i5, .h => .res_5_H
  | .i5, .l => .res_5_L
  | .i5, .a => .res_5_A
  | .i6, .b => .res_6_B
  | .i6, .c => .res_6_C
  | .i6, .d => .res_6_D
  | .i6, .e => .res_6_E
  | .i6, .h => .res_6_H
  | .i6, .l => .res_6_L
  | .i6, .a => .res_6_A
  | .i7, .b => .res_7_B
  | .i7, .c => .res_7_C
  | .i7, .d => .res_7_D
  | .i7, .e => .res_7_E
  | .i7, .h => .res_7_H
  | .i7, .l => .res_7_L
  | .i7, .a => .res_7_A

/-- `RES b,(HL)`, R339. -/
def Instr.resMem : Index3 → Instr
  | .i0 => .res_0_atHL
  | .i1 => .res_1_atHL
  | .i2 => .res_2_atHL
  | .i3 => .res_3_atHL
  | .i4 => .res_4_atHL
  | .i5 => .res_5_atHL
  | .i6 => .res_6_atHL
  | .i7 => .res_7_atHL

/-- `SET b,r8[z]`, register form, R340. -/
def Instr.setReg : Index3 → Reg8 → Instr
  | .i0, .b => .set_0_B
  | .i0, .c => .set_0_C
  | .i0, .d => .set_0_D
  | .i0, .e => .set_0_E
  | .i0, .h => .set_0_H
  | .i0, .l => .set_0_L
  | .i0, .a => .set_0_A
  | .i1, .b => .set_1_B
  | .i1, .c => .set_1_C
  | .i1, .d => .set_1_D
  | .i1, .e => .set_1_E
  | .i1, .h => .set_1_H
  | .i1, .l => .set_1_L
  | .i1, .a => .set_1_A
  | .i2, .b => .set_2_B
  | .i2, .c => .set_2_C
  | .i2, .d => .set_2_D
  | .i2, .e => .set_2_E
  | .i2, .h => .set_2_H
  | .i2, .l => .set_2_L
  | .i2, .a => .set_2_A
  | .i3, .b => .set_3_B
  | .i3, .c => .set_3_C
  | .i3, .d => .set_3_D
  | .i3, .e => .set_3_E
  | .i3, .h => .set_3_H
  | .i3, .l => .set_3_L
  | .i3, .a => .set_3_A
  | .i4, .b => .set_4_B
  | .i4, .c => .set_4_C
  | .i4, .d => .set_4_D
  | .i4, .e => .set_4_E
  | .i4, .h => .set_4_H
  | .i4, .l => .set_4_L
  | .i4, .a => .set_4_A
  | .i5, .b => .set_5_B
  | .i5, .c => .set_5_C
  | .i5, .d => .set_5_D
  | .i5, .e => .set_5_E
  | .i5, .h => .set_5_H
  | .i5, .l => .set_5_L
  | .i5, .a => .set_5_A
  | .i6, .b => .set_6_B
  | .i6, .c => .set_6_C
  | .i6, .d => .set_6_D
  | .i6, .e => .set_6_E
  | .i6, .h => .set_6_H
  | .i6, .l => .set_6_L
  | .i6, .a => .set_6_A
  | .i7, .b => .set_7_B
  | .i7, .c => .set_7_C
  | .i7, .d => .set_7_D
  | .i7, .e => .set_7_E
  | .i7, .h => .set_7_H
  | .i7, .l => .set_7_L
  | .i7, .a => .set_7_A

/-- `SET b,(HL)`, R340. -/
def Instr.setMem : Index3 → Instr
  | .i0 => .set_0_atHL
  | .i1 => .set_1_atHL
  | .i2 => .set_2_atHL
  | .i3 => .set_3_atHL
  | .i4 => .set_4_atHL
  | .i5 => .set_5_atHL
  | .i6 => .set_6_atHL
  | .i7 => .set_7_atHL

/-- `JP cc,a16`, R361. -/
def Instr.jpCond : Cond → Word → Instr
  | .nz, t => .jp_NZ_a16 t
  | .z, t => .jp_Z_a16 t
  | .nc, t => .jp_NC_a16 t
  | .c, t => .jp_C_a16 t

/-- `JR cc,e8`, R364. -/
def Instr.jrCond : Cond → Byte → Instr
  | .nz, e => .jr_NZ_e8 e
  | .z, e => .jr_Z_e8 e
  | .nc, e => .jr_NC_e8 e
  | .c, e => .jr_C_e8 e

/-- `CALL cc,a16`, R371. -/
def Instr.callCond : Cond → Word → Instr
  | .nz, t => .call_NZ_a16 t
  | .z, t => .call_Z_a16 t
  | .nc, t => .call_NC_a16 t
  | .c, t => .call_C_a16 t

/-- `RET cc`, R373. -/
def Instr.retCond : Cond → Instr
  | .nz => .ret_NZ
  | .z => .ret_Z
  | .nc => .ret_NC
  | .c => .ret_C

/-- `RST y*8`, R376. -/
def Instr.rst : Index3 → Instr
  | .i0 => .rst_00
  | .i1 => .rst_08
  | .i2 => .rst_10
  | .i3 => .rst_18
  | .i4 => .rst_20
  | .i5 => .rst_28
  | .i6 => .rst_30
  | .i7 => .rst_38

/-! ## Fields and index tables -/

/-- `x = op[7:6]` (R141). -/
def fieldX (op : Byte) : Nat := op.toNat / 64
/-- `y = op[5:3]` (R141). -/
def fieldY (op : Byte) : Nat := op.toNat / 8 % 8
/-- `z = op[2:0]` (R141). -/
def fieldZ (op : Byte) : Nat := op.toNat % 8
/-- `p = op[5:4]` (R141). -/
def fieldP (op : Byte) : Nat := op.toNat / 16 % 4
/-- `q = op[3]` (R141). -/
def fieldQ (op : Byte) : Nat := op.toNat / 8 % 2

/-- `r8[i]`; `none` is index 6, `(HL)` (R146). -/
def Reg8.ofIndex : Nat → Option Reg8
  | 0 => some .b | 1 => some .c | 2 => some .d | 3 => some .e | 4 => some .h | 5 => some .l | 6 => none | _ => some .a

/-- `rp[i]` (R147). -/
def Pair.ofIndex : Nat → Pair
  | 0 => .bc | 1 => .de | 2 => .hl | _ => .sp

/-- `rp2[i]` (R148). -/
def StackPair.ofIndex : Nat → StackPair
  | 0 => .bc | 1 => .de | 2 => .hl | _ => .af

/-- `cond(cc)` (R149). -/
def Cond.ofIndex : Nat → Cond
  | 0 => .nz | 1 => .z | 2 => .nc | _ => .c

/-- `alu[i]` (R150). -/
def AluOp.ofIndex : Nat → AluOp
  | 0 => .add | 1 => .adc | 2 => .sub | 3 => .sbc | 4 => .and | 5 => .xor | 6 => .or | _ => .cp

/-- `rot[i]` (R150). -/
def RotOp.ofIndex : Nat → RotOp
  | 0 => .rlc | 1 => .rrc | 2 => .rl | 3 => .rr | 4 => .sla | 5 => .sra | 6 => .swap | _ => .srl

/-- The index field with a given value. -/
def Index3.ofIndex : Nat → Index3
  | 0 => .i0 | 1 => .i1 | 2 => .i2 | 3 => .i3 | 4 => .i4 | 5 => .i5 | 6 => .i6 | _ => .i7

/-- The index of a register in `r8` (R146). -/
def Reg8.index : Reg8 → Nat
  | .b => 0 | .c => 1 | .d => 2 | .e => 3 | .h => 4 | .l => 5 | .a => 7

/-- The index of a pair in `rp` (R147). -/
def Pair.index : Pair → Nat
  | .bc => 0 | .de => 1 | .hl => 2 | .sp => 3

/-- The index of a pair in `rp2` (R148). -/
def StackPair.index : StackPair → Nat
  | .bc => 0 | .de => 1 | .hl => 2 | .af => 3

/-- The index of a condition (R149). -/
def Cond.index : Cond → Nat
  | .nz => 0 | .z => 1 | .nc => 2 | .c => 3

/-- The index of an operation in `alu` (R150). -/
def AluOp.index : AluOp → Nat
  | .add => 0 | .adc => 1 | .sub => 2 | .sbc => 3 | .and => 4 | .xor => 5 | .or => 6 | .cp => 7

/-- The index of an operation in `rot` (R150). -/
def RotOp.index : RotOp → Nat
  | .rlc => 0 | .rrc => 1 | .rl => 2 | .rr => 3 | .sla => 4 | .sra => 5 | .swap => 6 | .srl => 7

/-- A register operand or `(HL)`, for the forms that come in both. -/
def byOperand (i : Nat) (mem : Instr) (reg : Reg8 → Instr) : Instr :=
  match Reg8.ofIndex i with
  | some r => reg r
  | none => mem

/-! ## The opcode map -/

/-- The base page where `x = 0` (R152). -/
def decodeX0 (op b1 : Byte) (d16 : Word) : Instr :=
  match fieldZ op with
  | 0 =>
    match fieldY op with
    | 0 => .nop
    | 1 => .ld_atA16_SP d16
    | 2 => .unknown op
    | 3 => .jr_e8 b1
    | y => .jrCond (Cond.ofIndex (y - 4)) b1
  | 1 =>
    if fieldQ op = 0 then .ldPairImm (Pair.ofIndex (fieldP op)) d16 else .addHl (Pair.ofIndex (fieldP op))
  | 2 =>
    match fieldY op with
    | 0 => .ld_atBC_A
    | 1 => .ld_A_atBC
    | 2 => .ld_atDE_A
    | 3 => .ld_A_atDE
    | 4 => .ld_atHLinc_A
    | 5 => .ld_A_atHLinc
    | 6 => .ld_atHLdec_A
    | _ => .ld_A_atHLdec
  | 3 =>
    if fieldQ op = 0 then .incPair (Pair.ofIndex (fieldP op)) else .decPair (Pair.ofIndex (fieldP op))
  | 4 => byOperand (fieldY op) .inc_atHL .incReg
  | 5 => byOperand (fieldY op) .dec_atHL .decReg
  | 6 => byOperand (fieldY op) (.ld_atHL_d8 b1) (fun r => .ldRegImm r b1)
  | _ =>
    match fieldY op with
    | 0 => .rlca
    | 1 => .rrca
    | 2 => .rla
    | 3 => .rra
    | 4 => .daa
    | 5 => .cpl
    | 6 => .scf
    | _ => .ccf

/-- The load block, `x = 1`, with `HALT` in the slot of `LD (HL),(HL)` (R152). -/
def decodeX1 (op : Byte) : Instr :=
  match Reg8.ofIndex (fieldY op), Reg8.ofIndex (fieldZ op) with
  | some dst, some src => .ldRegReg dst src
  | some dst, none => .ldRegMem dst
  | none, some src => .ldMemReg src
  | none, none => .halt

/-- The arithmetic block, `x = 2` (R152). -/
def decodeX2 (op : Byte) : Instr :=
  byOperand (fieldZ op) (.aluMem (AluOp.ofIndex (fieldY op))) (.aluReg (AluOp.ofIndex (fieldY op)))

/-- The CB page, by the byte after 0xCB (R154). All 256 values are defined. -/
def decodeCb (sub : Byte) : Instr :=
  match fieldX sub with
  | 0 => byOperand (fieldZ sub) (.rotMem (RotOp.ofIndex (fieldY sub))) (.rotReg (RotOp.ofIndex (fieldY sub)))
  | 1 => byOperand (fieldZ sub) (.bitMem (Index3.ofIndex (fieldY sub))) (.bitReg (Index3.ofIndex (fieldY sub)))
  | 2 => byOperand (fieldZ sub) (.resMem (Index3.ofIndex (fieldY sub))) (.resReg (Index3.ofIndex (fieldY sub)))
  | _ => byOperand (fieldZ sub) (.setMem (Index3.ofIndex (fieldY sub))) (.setReg (Index3.ofIndex (fieldY sub)))

/-- The base page where `x = 3` (R152). -/
def decodeX3 (op b1 : Byte) (d16 : Word) : Instr :=
  match fieldZ op with
  | 0 =>
    match fieldY op with
    | 4 => .ldh_atA8_A b1
    | 5 => .add_SP_e8 b1
    | 6 => .ldh_A_atA8 b1
    | 7 => .ld_HL_SPe8 b1
    | y => .retCond (Cond.ofIndex y)
  | 1 =>
    if fieldQ op = 0 then .pop (StackPair.ofIndex (fieldP op))
    else
      match fieldP op with
      | 0 => .ret
      | 1 => .reti
      | 2 => .jp_HL
      | _ => .ld_SP_HL
  | 2 =>
    match fieldY op with
    | 4 => .ld_atC_A
    | 5 => .ld_atA16_A d16
    | 6 => .ld_A_atC
    | 7 => .ld_A_atA16 d16
    | y => .jpCond (Cond.ofIndex y) d16
  | 3 =>
    match fieldY op with
    | 0 => .jp_a16 d16
    | 1 => decodeCb b1
    | 6 => .di
    | 7 => .ei
    | _ => .unknown op
  | 4 => if fieldY op < 4 then .callCond (Cond.ofIndex (fieldY op)) d16 else .unknown op
  | 5 =>
    if fieldQ op = 0 then .push (StackPair.ofIndex (fieldP op))
    else if fieldP op = 0 then .call_a16 d16 else .unknown op
  | 6 => .aluImm (AluOp.ofIndex (fieldY op)) b1
  | _ => .rst (Index3.ofIndex (fieldY op))

/-- The instruction whose first byte is `op` and whose next two bytes, as far as it has them, are `b1` and `b2`.
Total: every first byte stands for an instruction or for `unknown` (R152 to R155). -/
def decodeBytes (op b1 b2 : Byte) : Instr :=
  match fieldX op with
  | 0 => decodeX0 op b1 (b2 ++ b1)
  | 1 => decodeX1 op
  | 2 => decodeX2 op
  | _ => decodeX3 op b1 (b2 ++ b1)

/-- Length in bytes, a function of the first byte alone (R140, R142). -/
def opcodeLength (op : Byte) : Nat :=
  match fieldX op with
  | 0 =>
    match fieldZ op with
    | 0 => if fieldY op = 1 then 3 else if 3 ≤ fieldY op then 2 else 1
    | 1 => if fieldQ op = 0 then 3 else 1
    | 6 => 2
    | _ => 1
  | 3 =>
    match fieldZ op with
    | 0 => if 4 ≤ fieldY op then 2 else 1
    | 2 => if fieldY op = 4 ∨ fieldY op = 6 then 1 else 3
    | 3 => if fieldY op = 0 then 3 else if fieldY op = 1 then 2 else 1
    | 4 => if fieldY op < 4 then 3 else 1
    | 5 => if op = 0xCD#8 then 3 else 1
    | 6 => 2
    | _ => 1
  | _ => 1

/-! ## Decoding by an instruction table -/

/-- The instruction an instruction table selects for a first byte and the two bytes after it: "opcode → operation
descriptor" (00_scope.md R5). A first byte the table lacks is an unknown opcode (R156). -/
def InstrTable.instr (t : InstrTable) (op b1 b2 : Byte) : Instr :=
  match t.row op with
  | none => .unknown op
  | some q => if q = 0xCB#8 then decodeCb (t.cbRow b1) else decodeBytes q b1 b2

/-- The length of that instruction, a function of the first byte alone (R140, R142, R156). -/
def InstrTable.length (t : InstrTable) (op : Byte) : Nat :=
  match t.row op with
  | none => 1
  | some q => opcodeLength q

/-! ## Decoding a string of bytes -/

/-- Why a string of bytes is no instruction. -/
inductive DecodeError
  /-- The bytes end before the instruction does. -/
  | truncated
deriving DecidableEq, Repr

/-- Decode one instruction off the front of a string of bytes and give the bytes after it. -/
def decode : List Byte → Except DecodeError (Instr × List Byte)
  | [] => .error .truncated
  | op :: rest =>
    if rest.length + 1 < opcodeLength op then .error .truncated
    else .ok (decodeBytes op (rest.getD 0 0#8) (rest.getD 1 0#8), (op :: rest).drop (opcodeLength op))

/-! ## The encoder -/

/-- A 16-bit operand, low byte first (R143). -/
def wordBytes (v : Word) : List Byte := [v.setWidth 8, (v >>> 8).setWidth 8]

/-- The bytes of an instruction, by the `match` column of opcode_table.json. -/
def encode : Instr → List Byte
  | .nop => [0x00#8]
  | .ld_BC_d16 v => 0x01#8 :: wordBytes v
  | .ld_atBC_A => [0x02#8]
  | .inc_BC => [0x03#8]
  | .inc_B => [0x04#8]
  | .dec_B => [0x05#8]
  | .ld_B_d8 v => [0x06#8, v]
  | .rlca => [0x07#8]
  | .ld_atA16_SP v => 0x08#8 :: wordBytes v
  | .add_HL_BC => [0x09#8]
  | .ld_A_atBC => [0x0A#8]
  | .dec_BC => [0x0B#8]
  | .inc_C => [0x0C#8]
  | .dec_C => [0x0D#8]
  | .ld_C_d8 v => [0x0E#8, v]
  | .rrca => [0x0F#8]
  | .unknown op => [op]
  | .ld_DE_d16 v => 0x11#8 :: wordBytes v
  | .ld_atDE_A => [0x12#8]
  | .inc_DE => [0x13#8]
  | .inc_D => [0x14#8]
  | .dec_D => [0x15#8]
  | .ld_D_d8 v => [0x16#8, v]
  | .rla => [0x17#8]
  | .jr_e8 v => [0x18#8, v]
  | .add_HL_DE => [0x19#8]
  | .ld_A_atDE => [0x1A#8]
  | .dec_DE => [0x1B#8]
  | .inc_E => [0x1C#8]
  | .dec_E => [0x1D#8]
  | .ld_E_d8 v => [0x1E#8, v]
  | .rra => [0x1F#8]
  | .jr_NZ_e8 v => [0x20#8, v]
  | .ld_HL_d16 v => 0x21#8 :: wordBytes v
  | .ld_atHLinc_A => [0x22#8]
  | .inc_HL => [0x23#8]
  | .inc_H => [0x24#8]
  | .dec_H => [0x25#8]
  | .ld_H_d8 v => [0x26#8, v]
  | .daa => [0x27#8]
  | .jr_Z_e8 v => [0x28#8, v]
  | .add_HL_HL => [0x29#8]
  | .ld_A_atHLinc => [0x2A#8]
  | .dec_HL => [0x2B#8]
  | .inc_L => [0x2C#8]
  | .dec_L => [0x2D#8]
  | .ld_L_d8 v => [0x2E#8, v]
  | .cpl => [0x2F#8]
  | .jr_NC_e8 v => [0x30#8, v]
  | .ld_SP_d16 v => 0x31#8 :: wordBytes v
  | .ld_atHLdec_A => [0x32#8]
  | .inc_SP => [0x33#8]
  | .inc_atHL => [0x34#8]
  | .dec_atHL => [0x35#8]
  | .ld_atHL_d8 v => [0x36#8, v]
  | .scf => [0x37#8]
  | .jr_C_e8 v => [0x38#8, v]
  | .add_HL_SP => [0x39#8]
  | .ld_A_atHLdec => [0x3A#8]
  | .dec_SP => [0x3B#8]
  | .inc_A => [0x3C#8]
  | .dec_A => [0x3D#8]
  | .ld_A_d8 v => [0x3E#8, v]
  | .ccf => [0x3F#8]
  | .ld_B_B => [0x40#8]
  | .ld_B_C => [0x41#8]
  | .ld_B_D => [0x42#8]
  | .ld_B_E => [0x43#8]
  | .ld_B_H => [0x44#8]
  | .ld_B_L => [0x45#8]
  | .ld_B_atHL => [0x46#8]
  | .ld_B_A => [0x47#8]
  | .ld_C_B => [0x48#8]
  | .ld_C_C => [0x49#8]
  | .ld_C_D => [0x4A#8]
  | .ld_C_E => [0x4B#8]
  | .ld_C_H => [0x4C#8]
  | .ld_C_L => [0x4D#8]
  | .ld_C_atHL => [0x4E#8]
  | .ld_C_A => [0x4F#8]
  | .ld_D_B => [0x50#8]
  | .ld_D_C => [0x51#8]
  | .ld_D_D => [0x52#8]
  | .ld_D_E => [0x53#8]
  | .ld_D_H => [0x54#8]
  | .ld_D_L => [0x55#8]
  | .ld_D_atHL => [0x56#8]
  | .ld_D_A => [0x57#8]
  | .ld_E_B => [0x58#8]
  | .ld_E_C => [0x59#8]
  | .ld_E_D => [0x5A#8]
  | .ld_E_E => [0x5B#8]
  | .ld_E_H => [0x5C#8]
  | .ld_E_L => [0x5D#8]
  | .ld_E_atHL => [0x5E#8]
  | .ld_E_A => [0x5F#8]
  | .ld_H_B => [0x60#8]
  | .ld_H_C => [0x61#8]
  | .ld_H_D => [0x62#8]
  | .ld_H_E => [0x63#8]
  | .ld_H_H => [0x64#8]
  | .ld_H_L => [0x65#8]
  | .ld_H_atHL => [0x66#8]
  | .ld_H_A => [0x67#8]
  | .ld_L_B => [0x68#8]
  | .ld_L_C => [0x69#8]
  | .ld_L_D => [0x6A#8]
  | .ld_L_E => [0x6B#8]
  | .ld_L_H => [0x6C#8]
  | .ld_L_L => [0x6D#8]
  | .ld_L_atHL => [0x6E#8]
  | .ld_L_A => [0x6F#8]
  | .ld_atHL_B => [0x70#8]
  | .ld_atHL_C => [0x71#8]
  | .ld_atHL_D => [0x72#8]
  | .ld_atHL_E => [0x73#8]
  | .ld_atHL_H => [0x74#8]
  | .ld_atHL_L => [0x75#8]
  | .halt => [0x76#8]
  | .ld_atHL_A => [0x77#8]
  | .ld_A_B => [0x78#8]
  | .ld_A_C => [0x79#8]
  | .ld_A_D => [0x7A#8]
  | .ld_A_E => [0x7B#8]
  | .ld_A_H => [0x7C#8]
  | .ld_A_L => [0x7D#8]
  | .ld_A_atHL => [0x7E#8]
  | .ld_A_A => [0x7F#8]
  | .add_A_B => [0x80#8]
  | .add_A_C => [0x81#8]
  | .add_A_D => [0x82#8]
  | .add_A_E => [0x83#8]
  | .add_A_H => [0x84#8]
  | .add_A_L => [0x85#8]
  | .add_A_atHL => [0x86#8]
  | .add_A_A => [0x87#8]
  | .adc_A_B => [0x88#8]
  | .adc_A_C => [0x89#8]
  | .adc_A_D => [0x8A#8]
  | .adc_A_E => [0x8B#8]
  | .adc_A_H => [0x8C#8]
  | .adc_A_L => [0x8D#8]
  | .adc_A_atHL => [0x8E#8]
  | .adc_A_A => [0x8F#8]
  | .sub_B => [0x90#8]
  | .sub_C => [0x91#8]
  | .sub_D => [0x92#8]
  | .sub_E => [0x93#8]
  | .sub_H => [0x94#8]
  | .sub_L => [0x95#8]
  | .sub_atHL => [0x96#8]
  | .sub_A => [0x97#8]
  | .sbc_A_B => [0x98#8]
  | .sbc_A_C => [0x99#8]
  | .sbc_A_D => [0x9A#8]
  | .sbc_A_E => [0x9B#8]
  | .sbc_A_H => [0x9C#8]
  | .sbc_A_L => [0x9D#8]
  | .sbc_A_atHL => [0x9E#8]
  | .sbc_A_A => [0x9F#8]
  | .and_B => [0xA0#8]
  | .and_C => [0xA1#8]
  | .and_D => [0xA2#8]
  | .and_E => [0xA3#8]
  | .and_H => [0xA4#8]
  | .and_L => [0xA5#8]
  | .and_atHL => [0xA6#8]
  | .and_A => [0xA7#8]
  | .xor_B => [0xA8#8]
  | .xor_C => [0xA9#8]
  | .xor_D => [0xAA#8]
  | .xor_E => [0xAB#8]
  | .xor_H => [0xAC#8]
  | .xor_L => [0xAD#8]
  | .xor_atHL => [0xAE#8]
  | .xor_A => [0xAF#8]
  | .or_B => [0xB0#8]
  | .or_C => [0xB1#8]
  | .or_D => [0xB2#8]
  | .or_E => [0xB3#8]
  | .or_H => [0xB4#8]
  | .or_L => [0xB5#8]
  | .or_atHL => [0xB6#8]
  | .or_A => [0xB7#8]
  | .cp_B => [0xB8#8]
  | .cp_C => [0xB9#8]
  | .cp_D => [0xBA#8]
  | .cp_E => [0xBB#8]
  | .cp_H => [0xBC#8]
  | .cp_L => [0xBD#8]
  | .cp_atHL => [0xBE#8]
  | .cp_A => [0xBF#8]
  | .ret_NZ => [0xC0#8]
  | .pop_BC => [0xC1#8]
  | .jp_NZ_a16 v => 0xC2#8 :: wordBytes v
  | .jp_a16 v => 0xC3#8 :: wordBytes v
  | .call_NZ_a16 v => 0xC4#8 :: wordBytes v
  | .push_BC => [0xC5#8]
  | .add_A_d8 v => [0xC6#8, v]
  | .rst_00 => [0xC7#8]
  | .ret_Z => [0xC8#8]
  | .ret => [0xC9#8]
  | .jp_Z_a16 v => 0xCA#8 :: wordBytes v
  | .prefixCb sub => [0xCB#8, sub]
  | .call_Z_a16 v => 0xCC#8 :: wordBytes v
  | .call_a16 v => 0xCD#8 :: wordBytes v
  | .adc_A_d8 v => [0xCE#8, v]
  | .rst_08 => [0xCF#8]
  | .ret_NC => [0xD0#8]
  | .pop_DE => [0xD1#8]
  | .jp_NC_a16 v => 0xD2#8 :: wordBytes v
  | .call_NC_a16 v => 0xD4#8 :: wordBytes v
  | .push_DE => [0xD5#8]
  | .sub_d8 v => [0xD6#8, v]
  | .rst_10 => [0xD7#8]
  | .ret_C => [0xD8#8]
  | .reti => [0xD9#8]
  | .jp_C_a16 v => 0xDA#8 :: wordBytes v
  | .call_C_a16 v => 0xDC#8 :: wordBytes v
  | .sbc_A_d8 v => [0xDE#8, v]
  | .rst_18 => [0xDF#8]
  | .ldh_atA8_A v => [0xE0#8, v]
  | .pop_HL => [0xE1#8]
  | .ld_atC_A => [0xE2#8]
  | .push_HL => [0xE5#8]
  | .and_d8 v => [0xE6#8, v]
  | .rst_20 => [0xE7#8]
  | .add_SP_e8 v => [0xE8#8, v]
  | .jp_HL => [0xE9#8]
  | .ld_atA16_A v => 0xEA#8 :: wordBytes v
  | .xor_d8 v => [0xEE#8, v]
  | .rst_28 => [0xEF#8]
  | .ldh_A_atA8 v => [0xF0#8, v]
  | .pop_AF => [0xF1#8]
  | .ld_A_atC => [0xF2#8]
  | .di => [0xF3#8]
  | .push_AF => [0xF5#8]
  | .or_d8 v => [0xF6#8, v]
  | .rst_30 => [0xF7#8]
  | .ld_HL_SPe8 v => [0xF8#8, v]
  | .ld_SP_HL => [0xF9#8]
  | .ld_A_atA16 v => 0xFA#8 :: wordBytes v
  | .ei => [0xFB#8]
  | .cp_d8 v => [0xFE#8, v]
  | .rst_38 => [0xFF#8]
  | .rlc_B => [0xCB#8, 0x00#8]
  | .rlc_C => [0xCB#8, 0x01#8]
  | .rlc_D => [0xCB#8, 0x02#8]
  | .rlc_E => [0xCB#8, 0x03#8]
  | .rlc_H => [0xCB#8, 0x04#8]
  | .rlc_L => [0xCB#8, 0x05#8]
  | .rlc_atHL => [0xCB#8, 0x06#8]
  | .rlc_A => [0xCB#8, 0x07#8]
  | .rrc_B => [0xCB#8, 0x08#8]
  | .rrc_C => [0xCB#8, 0x09#8]
  | .rrc_D => [0xCB#8, 0x0A#8]
  | .rrc_E => [0xCB#8, 0x0B#8]
  | .rrc_H => [0xCB#8, 0x0C#8]
  | .rrc_L => [0xCB#8, 0x0D#8]
  | .rrc_atHL => [0xCB#8, 0x0E#8]
  | .rrc_A => [0xCB#8, 0x0F#8]
  | .rl_B => [0xCB#8, 0x10#8]
  | .rl_C => [0xCB#8, 0x11#8]
  | .rl_D => [0xCB#8, 0x12#8]
  | .rl_E => [0xCB#8, 0x13#8]
  | .rl_H => [0xCB#8, 0x14#8]
  | .rl_L => [0xCB#8, 0x15#8]
  | .rl_atHL => [0xCB#8, 0x16#8]
  | .rl_A => [0xCB#8, 0x17#8]
  | .rr_B => [0xCB#8, 0x18#8]
  | .rr_C => [0xCB#8, 0x19#8]
  | .rr_D => [0xCB#8, 0x1A#8]
  | .rr_E => [0xCB#8, 0x1B#8]
  | .rr_H => [0xCB#8, 0x1C#8]
  | .rr_L => [0xCB#8, 0x1D#8]
  | .rr_atHL => [0xCB#8, 0x1E#8]
  | .rr_A => [0xCB#8, 0x1F#8]
  | .sla_B => [0xCB#8, 0x20#8]
  | .sla_C => [0xCB#8, 0x21#8]
  | .sla_D => [0xCB#8, 0x22#8]
  | .sla_E => [0xCB#8, 0x23#8]
  | .sla_H => [0xCB#8, 0x24#8]
  | .sla_L => [0xCB#8, 0x25#8]
  | .sla_atHL => [0xCB#8, 0x26#8]
  | .sla_A => [0xCB#8, 0x27#8]
  | .sra_B => [0xCB#8, 0x28#8]
  | .sra_C => [0xCB#8, 0x29#8]
  | .sra_D => [0xCB#8, 0x2A#8]
  | .sra_E => [0xCB#8, 0x2B#8]
  | .sra_H => [0xCB#8, 0x2C#8]
  | .sra_L => [0xCB#8, 0x2D#8]
  | .sra_atHL => [0xCB#8, 0x2E#8]
  | .sra_A => [0xCB#8, 0x2F#8]
  | .swap_B => [0xCB#8, 0x30#8]
  | .swap_C => [0xCB#8, 0x31#8]
  | .swap_D => [0xCB#8, 0x32#8]
  | .swap_E => [0xCB#8, 0x33#8]
  | .swap_H => [0xCB#8, 0x34#8]
  | .swap_L => [0xCB#8, 0x35#8]
  | .swap_atHL => [0xCB#8, 0x36#8]
  | .swap_A => [0xCB#8, 0x37#8]
  | .srl_B => [0xCB#8, 0x38#8]
  | .srl_C => [0xCB#8, 0x39#8]
  | .srl_D => [0xCB#8, 0x3A#8]
  | .srl_E => [0xCB#8, 0x3B#8]
  | .srl_H => [0xCB#8, 0x3C#8]
  | .srl_L => [0xCB#8, 0x3D#8]
  | .srl_atHL => [0xCB#8, 0x3E#8]
  | .srl_A => [0xCB#8, 0x3F#8]
  | .bit_0_B => [0xCB#8, 0x40#8]
  | .bit_0_C => [0xCB#8, 0x41#8]
  | .bit_0_D => [0xCB#8, 0x42#8]
  | .bit_0_E => [0xCB#8, 0x43#8]
  | .bit_0_H => [0xCB#8, 0x44#8]
  | .bit_0_L => [0xCB#8, 0x45#8]
  | .bit_0_atHL => [0xCB#8, 0x46#8]
  | .bit_0_A => [0xCB#8, 0x47#8]
  | .bit_1_B => [0xCB#8, 0x48#8]
  | .bit_1_C => [0xCB#8, 0x49#8]
  | .bit_1_D => [0xCB#8, 0x4A#8]
  | .bit_1_E => [0xCB#8, 0x4B#8]
  | .bit_1_H => [0xCB#8, 0x4C#8]
  | .bit_1_L => [0xCB#8, 0x4D#8]
  | .bit_1_atHL => [0xCB#8, 0x4E#8]
  | .bit_1_A => [0xCB#8, 0x4F#8]
  | .bit_2_B => [0xCB#8, 0x50#8]
  | .bit_2_C => [0xCB#8, 0x51#8]
  | .bit_2_D => [0xCB#8, 0x52#8]
  | .bit_2_E => [0xCB#8, 0x53#8]
  | .bit_2_H => [0xCB#8, 0x54#8]
  | .bit_2_L => [0xCB#8, 0x55#8]
  | .bit_2_atHL => [0xCB#8, 0x56#8]
  | .bit_2_A => [0xCB#8, 0x57#8]
  | .bit_3_B => [0xCB#8, 0x58#8]
  | .bit_3_C => [0xCB#8, 0x59#8]
  | .bit_3_D => [0xCB#8, 0x5A#8]
  | .bit_3_E => [0xCB#8, 0x5B#8]
  | .bit_3_H => [0xCB#8, 0x5C#8]
  | .bit_3_L => [0xCB#8, 0x5D#8]
  | .bit_3_atHL => [0xCB#8, 0x5E#8]
  | .bit_3_A => [0xCB#8, 0x5F#8]
  | .bit_4_B => [0xCB#8, 0x60#8]
  | .bit_4_C => [0xCB#8, 0x61#8]
  | .bit_4_D => [0xCB#8, 0x62#8]
  | .bit_4_E => [0xCB#8, 0x63#8]
  | .bit_4_H => [0xCB#8, 0x64#8]
  | .bit_4_L => [0xCB#8, 0x65#8]
  | .bit_4_atHL => [0xCB#8, 0x66#8]
  | .bit_4_A => [0xCB#8, 0x67#8]
  | .bit_5_B => [0xCB#8, 0x68#8]
  | .bit_5_C => [0xCB#8, 0x69#8]
  | .bit_5_D => [0xCB#8, 0x6A#8]
  | .bit_5_E => [0xCB#8, 0x6B#8]
  | .bit_5_H => [0xCB#8, 0x6C#8]
  | .bit_5_L => [0xCB#8, 0x6D#8]
  | .bit_5_atHL => [0xCB#8, 0x6E#8]
  | .bit_5_A => [0xCB#8, 0x6F#8]
  | .bit_6_B => [0xCB#8, 0x70#8]
  | .bit_6_C => [0xCB#8, 0x71#8]
  | .bit_6_D => [0xCB#8, 0x72#8]
  | .bit_6_E => [0xCB#8, 0x73#8]
  | .bit_6_H => [0xCB#8, 0x74#8]
  | .bit_6_L => [0xCB#8, 0x75#8]
  | .bit_6_atHL => [0xCB#8, 0x76#8]
  | .bit_6_A => [0xCB#8, 0x77#8]
  | .bit_7_B => [0xCB#8, 0x78#8]
  | .bit_7_C => [0xCB#8, 0x79#8]
  | .bit_7_D => [0xCB#8, 0x7A#8]
  | .bit_7_E => [0xCB#8, 0x7B#8]
  | .bit_7_H => [0xCB#8, 0x7C#8]
  | .bit_7_L => [0xCB#8, 0x7D#8]
  | .bit_7_atHL => [0xCB#8, 0x7E#8]
  | .bit_7_A => [0xCB#8, 0x7F#8]
  | .res_0_B => [0xCB#8, 0x80#8]
  | .res_0_C => [0xCB#8, 0x81#8]
  | .res_0_D => [0xCB#8, 0x82#8]
  | .res_0_E => [0xCB#8, 0x83#8]
  | .res_0_H => [0xCB#8, 0x84#8]
  | .res_0_L => [0xCB#8, 0x85#8]
  | .res_0_atHL => [0xCB#8, 0x86#8]
  | .res_0_A => [0xCB#8, 0x87#8]
  | .res_1_B => [0xCB#8, 0x88#8]
  | .res_1_C => [0xCB#8, 0x89#8]
  | .res_1_D => [0xCB#8, 0x8A#8]
  | .res_1_E => [0xCB#8, 0x8B#8]
  | .res_1_H => [0xCB#8, 0x8C#8]
  | .res_1_L => [0xCB#8, 0x8D#8]
  | .res_1_atHL => [0xCB#8, 0x8E#8]
  | .res_1_A => [0xCB#8, 0x8F#8]
  | .res_2_B => [0xCB#8, 0x90#8]
  | .res_2_C => [0xCB#8, 0x91#8]
  | .res_2_D => [0xCB#8, 0x92#8]
  | .res_2_E => [0xCB#8, 0x93#8]
  | .res_2_H => [0xCB#8, 0x94#8]
  | .res_2_L => [0xCB#8, 0x95#8]
  | .res_2_atHL => [0xCB#8, 0x96#8]
  | .res_2_A => [0xCB#8, 0x97#8]
  | .res_3_B => [0xCB#8, 0x98#8]
  | .res_3_C => [0xCB#8, 0x99#8]
  | .res_3_D => [0xCB#8, 0x9A#8]
  | .res_3_E => [0xCB#8, 0x9B#8]
  | .res_3_H => [0xCB#8, 0x9C#8]
  | .res_3_L => [0xCB#8, 0x9D#8]
  | .res_3_atHL => [0xCB#8, 0x9E#8]
  | .res_3_A => [0xCB#8, 0x9F#8]
  | .res_4_B => [0xCB#8, 0xA0#8]
  | .res_4_C => [0xCB#8, 0xA1#8]
  | .res_4_D => [0xCB#8, 0xA2#8]
  | .res_4_E => [0xCB#8, 0xA3#8]
  | .res_4_H => [0xCB#8, 0xA4#8]
  | .res_4_L => [0xCB#8, 0xA5#8]
  | .res_4_atHL => [0xCB#8, 0xA6#8]
  | .res_4_A => [0xCB#8, 0xA7#8]
  | .res_5_B => [0xCB#8, 0xA8#8]
  | .res_5_C => [0xCB#8, 0xA9#8]
  | .res_5_D => [0xCB#8, 0xAA#8]
  | .res_5_E => [0xCB#8, 0xAB#8]
  | .res_5_H => [0xCB#8, 0xAC#8]
  | .res_5_L => [0xCB#8, 0xAD#8]
  | .res_5_atHL => [0xCB#8, 0xAE#8]
  | .res_5_A => [0xCB#8, 0xAF#8]
  | .res_6_B => [0xCB#8, 0xB0#8]
  | .res_6_C => [0xCB#8, 0xB1#8]
  | .res_6_D => [0xCB#8, 0xB2#8]
  | .res_6_E => [0xCB#8, 0xB3#8]
  | .res_6_H => [0xCB#8, 0xB4#8]
  | .res_6_L => [0xCB#8, 0xB5#8]
  | .res_6_atHL => [0xCB#8, 0xB6#8]
  | .res_6_A => [0xCB#8, 0xB7#8]
  | .res_7_B => [0xCB#8, 0xB8#8]
  | .res_7_C => [0xCB#8, 0xB9#8]
  | .res_7_D => [0xCB#8, 0xBA#8]
  | .res_7_E => [0xCB#8, 0xBB#8]
  | .res_7_H => [0xCB#8, 0xBC#8]
  | .res_7_L => [0xCB#8, 0xBD#8]
  | .res_7_atHL => [0xCB#8, 0xBE#8]
  | .res_7_A => [0xCB#8, 0xBF#8]
  | .set_0_B => [0xCB#8, 0xC0#8]
  | .set_0_C => [0xCB#8, 0xC1#8]
  | .set_0_D => [0xCB#8, 0xC2#8]
  | .set_0_E => [0xCB#8, 0xC3#8]
  | .set_0_H => [0xCB#8, 0xC4#8]
  | .set_0_L => [0xCB#8, 0xC5#8]
  | .set_0_atHL => [0xCB#8, 0xC6#8]
  | .set_0_A => [0xCB#8, 0xC7#8]
  | .set_1_B => [0xCB#8, 0xC8#8]
  | .set_1_C => [0xCB#8, 0xC9#8]
  | .set_1_D => [0xCB#8, 0xCA#8]
  | .set_1_E => [0xCB#8, 0xCB#8]
  | .set_1_H => [0xCB#8, 0xCC#8]
  | .set_1_L => [0xCB#8, 0xCD#8]
  | .set_1_atHL => [0xCB#8, 0xCE#8]
  | .set_1_A => [0xCB#8, 0xCF#8]
  | .set_2_B => [0xCB#8, 0xD0#8]
  | .set_2_C => [0xCB#8, 0xD1#8]
  | .set_2_D => [0xCB#8, 0xD2#8]
  | .set_2_E => [0xCB#8, 0xD3#8]
  | .set_2_H => [0xCB#8, 0xD4#8]
  | .set_2_L => [0xCB#8, 0xD5#8]
  | .set_2_atHL => [0xCB#8, 0xD6#8]
  | .set_2_A => [0xCB#8, 0xD7#8]
  | .set_3_B => [0xCB#8, 0xD8#8]
  | .set_3_C => [0xCB#8, 0xD9#8]
  | .set_3_D => [0xCB#8, 0xDA#8]
  | .set_3_E => [0xCB#8, 0xDB#8]
  | .set_3_H => [0xCB#8, 0xDC#8]
  | .set_3_L => [0xCB#8, 0xDD#8]
  | .set_3_atHL => [0xCB#8, 0xDE#8]
  | .set_3_A => [0xCB#8, 0xDF#8]
  | .set_4_B => [0xCB#8, 0xE0#8]
  | .set_4_C => [0xCB#8, 0xE1#8]
  | .set_4_D => [0xCB#8, 0xE2#8]
  | .set_4_E => [0xCB#8, 0xE3#8]
  | .set_4_H => [0xCB#8, 0xE4#8]
  | .set_4_L => [0xCB#8, 0xE5#8]
  | .set_4_atHL => [0xCB#8, 0xE6#8]
  | .set_4_A => [0xCB#8, 0xE7#8]
  | .set_5_B => [0xCB#8, 0xE8#8]
  | .set_5_C => [0xCB#8, 0xE9#8]
  | .set_5_D => [0xCB#8, 0xEA#8]
  | .set_5_E => [0xCB#8, 0xEB#8]
  | .set_5_H => [0xCB#8, 0xEC#8]
  | .set_5_L => [0xCB#8, 0xED#8]
  | .set_5_atHL => [0xCB#8, 0xEE#8]
  | .set_5_A => [0xCB#8, 0xEF#8]
  | .set_6_B => [0xCB#8, 0xF0#8]
  | .set_6_C => [0xCB#8, 0xF1#8]
  | .set_6_D => [0xCB#8, 0xF2#8]
  | .set_6_E => [0xCB#8, 0xF3#8]
  | .set_6_H => [0xCB#8, 0xF4#8]
  | .set_6_L => [0xCB#8, 0xF5#8]
  | .set_6_atHL => [0xCB#8, 0xF6#8]
  | .set_6_A => [0xCB#8, 0xF7#8]
  | .set_7_B => [0xCB#8, 0xF8#8]
  | .set_7_C => [0xCB#8, 0xF9#8]
  | .set_7_D => [0xCB#8, 0xFA#8]
  | .set_7_E => [0xCB#8, 0xFB#8]
  | .set_7_H => [0xCB#8, 0xFC#8]
  | .set_7_L => [0xCB#8, 0xFD#8]
  | .set_7_atHL => [0xCB#8, 0xFE#8]
  | .set_7_A => [0xCB#8, 0xFF#8]

/-! ## The opcode table's word -/

/-- The bytes of an instruction given as the number of its table row. A row of the CB page is 16 bits wide and its
`match` is `0xCB00 + s` (60_exceptions.md R501), so its first byte is the high one; every other number has its first
byte in bits 7 to 0 (log 6). Bits above `nbits` are 0. -/
def tableWordBytes (nbits w : Nat) : List Byte :=
  let w := w % 2 ^ nbits
  if nbits = 16 ∧ w / 256 = 0xCB then [0xCB#8, BitVec.ofNat 8 w, 0#8]
  else [BitVec.ofNat 8 w, BitVec.ofNat 8 (w / 256), BitVec.ofNat 8 (w / 65536)]

/-- What the decoder reads from the word of a table row. -/
def decodeTableWord (nbits w : Nat) : Option Instr :=
  match decode (tableWordBytes nbits w) with
  | .ok (i, _) => some i
  | .error _ => none

end Sys2Proof
end

