-- ==== Sys2Proof/Machine/State.lean ====
section
/-! DEFINITION. The state of the core, component by component (10_state.md R20 to R46), the reasons a step can stop,
and the state right after reset (R60 to R65; 70_reset_and_hazards.md R800, R803). Plain data: every array is a list
of (index, value) cells with strictly rising indices and no cell holding zero; an unlisted index reads zero (R61, R62,
R803: every array is zero after construction; log 2). -/

namespace Sys2Proof.Machine

/-- A sparse array of `w`-bit values. Its operations are in Machine/Mem.lean. -/
abbrev Cells (w : Nat) := List (Nat × BitVec w)

/-- A byte-addressable array (R34). -/
abbrev Memory := List Host.Cell

/-- The register file of the CPU, with the stack pointer and the program counter (R20, R26, R27). -/
structure Regs where
  a : Byte
  f : Byte
  b : Byte
  c : Byte
  d : Byte
  e : Byte
  h : Byte
  l : Byte
  sp : Word
  pc : Word
deriving DecidableEq, Repr

/-- "Bank State: current ROM bank index and RAM bank index, RAM-enable flag" (R33). -/
structure Bank where
  romBank : BitVec 8
  ramBank : BitVec 4
  ramEnable : Bool
deriving DecidableEq, Repr

/-- The arrays the Bus owns (R34). `rom` holds bank `b` from index `b * 0x4000`, `eram` from `b * 0x2000`; `wram` is
the list of the work RAM banks. `romBanks` is `ROM_BANKS`, 0 while no image is loaded (R6;
70_reset_and_hazards.md R834). `io` holds the plain cells only: the others are views (R35). -/
structure Store where
  romBanks : Nat
  rom : Memory
  vram : Memory
  eram : Memory
  wram : List Memory
  oam : Memory
  io : Memory
  hram : Memory
deriving DecidableEq, Repr

/-- The divider, the gated counter and their prescalers (R36). -/
structure Timer where
  div : Byte
  divSub : Nat
  tima : Byte
  timaSub : Nat
  tma : Byte
  tac : BitVec 3
deriving DecidableEq, Repr

/-- `ppu_mode` (R37). -/
inductive PpuMode
  | oamScan | pixelTransfer | hblank | vblank
deriving DecidableEq, Repr

/-- The pixel pipeline (R37 to R39). `stat` is `STAT[6:3]`, its bit 0 being `STAT[3]`. Cell `(row, column)` of `FB` is
at index `row * FB_WIDTH + column` of `fb`. -/
structure Ppu where
  mode : PpuMode
  dot : Nat
  ly : Byte
  lcdc : Byte
  stat : BitVec 4
  scy : Byte
  scx : Byte
  lyc : Byte
  bgp : Byte
  obp0 : Byte
  obp1 : Byte
  wy : Byte
  wx : Byte
  fb : Cells 2
deriving DecidableEq, Repr

/-- One voice (R41). `pos` counts in units of which `PITCH_ONE` are one sample, 0 to `SRAM_SAMPLES * PITCH_ONE - 1`; in
`CFG_REF` its low 12 bits are the fraction. -/
structure Voice where
  volume : BitVec 16
  pitch : BitVec 16
  attack : BitVec 16
  decay : BitVec 16
  sustain : BitVec 16
  release : BitVec 16
  pos : Nat
  env : Nat
  keyOn : Bool
  keyOff : Bool
deriving DecidableEq, Repr

/-- One synthesizer core: its globals (R40), its voices (R41), its sample RAM (R42) and its reverb line (R43), whose
pairs are `(rvbL[i], rvbR[i])`. -/
structure SpuCore where
  reverbEnable : Bool
  irqEnable : Bool
  irqFlag : Bool
  irqAddr : Nat
  xferAddr : Nat
  voices : List Voice
  sram : Cells 16
  rvbL : Cells 16
  rvbR : Cells 16
  rvbIdx : Nat
deriving DecidableEq, Repr

/-- The synthesizer: its cores (R40, 62_spu.md R725), the output buffer and the step counter (R43). `latch` is the
model's own: by offset in the I/O file, the bytes last written at the addresses of `SPU_IO_MAP`, from which arguments
are assembled (62_spu.md R723; log 7). -/
structure Spu where
  cores : List SpuCore
  outbuf : List (BitVec 16)
  phase : Nat
  latch : Cells 8
deriving DecidableEq, Repr

/-- A record of the event queue (R44). -/
inductive Event
  | unknownOpcode (opcode : Byte) (addr : Word)
deriving DecidableEq, Repr

/-- The whole machine. `ifReg` and `ieReg` are `IF` and `IE` (R29, R30). `cycles` is the model's own: the value the
tick returns (00_scope.md R10; log 4); so is `freeIndex`, which picks the free values (log 16). -/
structure State where
  cfg : Config
  regs : Regs
  ime : Bool
  halted : Bool
  eiPending : Bool
  ifReg : BitVec 5
  ieReg : BitVec 5
  bank : Bank
  store : Store
  timer : Timer
  ppu : Ppu
  spu : Spu
  events : List Event
  cycles : Nat
  freeIndex : Nat
deriving DecidableEq, Repr

/-- The faults of the machine: none. "The synchronous-exception cause table of this machine is empty"
(60_exceptions.md R551); the address violation of 20_memory.md R71 cannot be formed. -/
inductive Fault
deriving DecidableEq, Repr

/-- Why a step is refused. -/
inductive Refusal
  /-- Raised by `exec` for an instruction without a meaning; safe. No arm of this model raises it. -/
  | notModelled (mnemonic : String)
  /-- Raised by `step` while no ROM is loaded: "Refused when no ROM is loaded" (70_reset_and_hazards.md R832); safe. -/
  | noRomLoaded
deriving DecidableEq, Repr

/-- What a step or a meaning answers. -/
abbrev Result := Host.Outcome State Fault Refusal

/-! ## The state after reset -/

/-- `RESET_REGS`, `RESET_SP` and `RESET_PC` (R60; 00_scope.md R6). -/
def Regs.resetFor (c : Config) : Regs where
  a := c.resetRegs.a
  f := c.resetRegs.f
  b := c.resetRegs.b
  c := c.resetRegs.c
  d := c.resetRegs.d
  e := c.resetRegs.e
  h := c.resetRegs.h
  l := c.resetRegs.l
  sp := c.resetSp
  pc := c.resetPc

/-- R60. -/
def Regs.reset : Regs := Regs.resetFor Config.ref

/-- R63. -/
def Bank.reset : Bank where
  romBank := 1#8
  ramBank := 0#4
  ramEnable := false

/-- R63. -/
def Timer.reset : Timer where
  div := 0#8
  divSub := 0
  tima := 0#8
  timaSub := 0
  tma := 0#8
  tac := 0#3

/-- The pipeline after reset: its registers from `RESET_IO`, the rest by R63 (R62, R63; 70_reset_and_hazards.md
R800). -/
def Ppu.resetFor (c : Config) : Ppu where
  mode := .oamScan
  dot := 0
  ly := 0#8
  lcdc := c.resetIoByte 0x40
  stat := (c.resetIoByte 0x41 >>> 3).setWidth 4
  scy := c.resetIoByte 0x42
  scx := c.resetIoByte 0x43
  lyc := c.resetIoByte 0x45
  bgp := c.resetIoByte 0x47
  obp0 := c.resetIoByte 0x48
  obp1 := c.resetIoByte 0x49
  wy := c.resetIoByte 0x4A
  wx := c.resetIoByte 0x4B
  fb := []

/-- R62, R63. -/
def Ppu.reset : Ppu := Ppu.resetFor Config.ref

/-- "reset to silence" (R64). -/
def Voice.reset : Voice where
  volume := 0#16
  pitch := 0#16
  attack := 0#16
  decay := 0#16
  sustain := 0#16
  release := 0#16
  pos := 0
  env := 0
  keyOn := false
  keyOff := false

/-- A core after construction and reset (R64; 70_reset_and_hazards.md R803). -/
def SpuCore.resetFor (c : Config) : SpuCore where
  reverbEnable := false
  irqEnable := false
  irqFlag := false
  irqAddr := 0
  xferAddr := 0
  voices := List.replicate c.nVoices Voice.reset
  sram := []
  rvbL := []
  rvbR := []
  rvbIdx := 0

/-- R64. -/
def SpuCore.reset : SpuCore := SpuCore.resetFor Config.ref

/-- The arrays of a fresh instance: zero-filled, no ROM (70_reset_and_hazards.md R803; log 3). -/
def Store.freshFor (c : Config) : Store where
  romBanks := 0
  rom := []
  vram := []
  eram := []
  wram := List.replicate c.wramBanks []
  oam := []
  io := []
  hram := []

/-- R61, R803. -/
def Store.fresh : Store := Store.freshFor Config.ref

/-- The machine of `CFG_REF` right after `Construct` and `Reset` (R60 to R65; 70_reset_and_hazards.md R800, R803).
`cycles` is 0 by log 4, `freeIndex` by log 16. -/
def State.reset : State where
  cfg := Config.ref
  regs := Regs.reset
  ime := false
  halted := false
  eiPending := false
  ifReg := 0#5
  ieReg := 0#5
  bank := Bank.reset
  store := Store.fresh
  timer := Timer.reset
  ppu := Ppu.reset
  spu := { cores := [SpuCore.reset], outbuf := [], phase := 0, latch := [] }
  events := []
  cycles := 0
  freeIndex := 0

end Sys2Proof.Machine
end

