-- ==== Sys2Proof/Machine/Mem.lean ====
section
/-! DEFINITION. Sparse arrays: reading, writing and filling, keeping the canonical form. -/

namespace Sys2Proof.Machine

/-- The value at an index; what an unlisted index reads as is zero (10_state.md R61, R62; log 2). -/
def Cells.read {w : Nat} : Cells w → Nat → BitVec w
  | [], _ => 0#w
  | (k, v) :: m, i => if k = i then v else Cells.read m i

/-- Store a value. Writing zero removes the cell. -/
def Cells.write {w : Nat} : Cells w → Nat → BitVec w → Cells w
  | [], i, v => if v = 0#w then [] else [(i, v)]
  | (k, x) :: m, i, v =>
    if i < k then (if v = 0#w then (k, x) :: m else (i, v) :: (k, x) :: m)
    else if i = k then (if v = 0#w then m else (i, v) :: m)
    else (k, x) :: Cells.write m i v

/-- The cells `base + j` for `j < n` that `f` makes non-zero. -/
def Cells.ofFn {w : Nat} (base n : Nat) (f : Nat → BitVec w) : Cells w :=
  (List.range n).filterMap fun j => if f j = 0#w then none else some (base + j, f j)

/-- Replace the cells `base` to `base + n - 1` by the values of `f` and keep the others. -/
def Cells.fill {w : Nat} (m : Cells w) (base n : Nat) (f : Nat → BitVec w) : Cells w :=
  m.filter (fun c => decide (c.1 < base)) ++ Cells.ofFn base n f ++ m.filter (fun c => decide (base + n ≤ c.1))

/-- The canonical form: indices strictly rising, no zero cell. -/
abbrev Cells.wf {w : Nat} (m : Cells w) : Prop :=
  m.Pairwise (fun x y => x.1 < y.1) ∧ ∀ c ∈ m, c.2 ≠ 0#w

/-- Canonical, and every listed index below a bound. -/
abbrev Cells.within {w : Nat} (m : Cells w) (n : Nat) : Prop :=
  Cells.wf m ∧ ∀ c ∈ m, c.1 < n

/-- The byte at an index of an array of the Bus. -/
def Memory.read (m : Memory) (i : Nat) : Byte := Cells.read m i

/-- Store a byte in an array of the Bus. -/
def Memory.write (m : Memory) (i : Nat) (v : Byte) : Memory := Cells.write m i v

/-- The canonical form of an array of the Bus. -/
abbrev Memory.wf (m : Memory) : Prop := Cells.wf m

/-- `WRAM[b][i]`: the byte at an index of a bank (10_state.md R34). -/
def Store.readWram (st : Store) (b i : Nat) : Byte := (st.wram.getD b []).read i

/-- Store a byte in `WRAM[b]` (10_state.md R34). -/
def Store.writeWram (st : Store) (b i : Nat) (v : Byte) : Store :=
  { st with wram := st.wram.modify b fun m => m.write i v }

end Sys2Proof.Machine
end

