-- ==== Sys2Proof/Machine/Fields.lean ====
section
/-! DEFINITION. The named updates of one part of the state. Every operation of the machine is built from them; their
field-by-field lemmas are in Laws/State.lean. -/

namespace Sys2Proof.Machine

namespace State

/-- Replace the register file. -/
def setRegs (s : State) (v : Regs) : State := { s with regs := v }
/-- Write `PC` (10_state.md R27). -/
def setPc (s : State) (v : Word) : State := { s with regs := { s.regs with pc := v } }
/-- Write `SP` (10_state.md R26). -/
def setSp (s : State) (v : Word) : State := { s with regs := { s.regs with sp := v } }
/-- Write `A`. -/
def setA (s : State) (v : Byte) : State := { s with regs := { s.regs with a := v } }
/-- Write `F` as it stands. -/
def setF (s : State) (v : Byte) : State := { s with regs := { s.regs with f := v } }
/-- Write `IME` (10_state.md R28). -/
def setIme (s : State) (v : Bool) : State := { s with ime := v }
/-- Write `halted` (10_state.md R31). -/
def setHalted (s : State) (v : Bool) : State := { s with halted := v }
/-- Write `ei_pending` (10_state.md R32). -/
def setEiPending (s : State) (v : Bool) : State := { s with eiPending := v }
/-- Write `IF` (10_state.md R29). -/
def setIf (s : State) (v : BitVec 5) : State := { s with ifReg := v }
/-- Write `IE` (10_state.md R30). -/
def setIe (s : State) (v : BitVec 5) : State := { s with ieReg := v }
/-- Replace the bank state. -/
def setBank (s : State) (v : Bank) : State := { s with bank := v }
/-- Replace the arrays of the Bus. -/
def setStore (s : State) (v : Store) : State := { s with store := v }
/-- Replace the timer. -/
def setTimer (s : State) (v : Timer) : State := { s with timer := v }
/-- Replace the pixel pipeline. -/
def setPpu (s : State) (v : Ppu) : State := { s with ppu := v }
/-- Replace the synthesizer. -/
def setSpu (s : State) (v : Spu) : State := { s with spu := v }
/-- Append to the event queue, `log Event(...)` (00_scope.md R10, 10_state.md R44). -/
def logEvent (s : State) (e : Event) : State := { s with events := s.events ++ [e] }
/-- Replace the count of cycles. -/
def setCycles (s : State) (n : Nat) : State := { s with cycles := n }
/-- Add to the count of cycles the tick returns (60_exceptions.md R500). -/
def charge (s : State) (n : Nat) : State := { s with cycles := s.cycles + n }
/-- Set pending bit `n` of `IF`. -/
def raise (s : State) (n : Nat) : State := s.setIf (s.ifReg ||| (1#5 <<< n))

/-- Move on to the next free value (log 16). -/
def nextFree (s : State) : State := { s with freeIndex := s.freeIndex + 1 }

end State

end Sys2Proof.Machine
end

