-- ==== Sys2Proof/Machine/Flags.lean ====
section
/-! DEFINITION. The four flags (10_state.md R23 to R25) and every flag and result computation of the instruction set
(41_alu8.md, 42_alu16.md, 43_rotates_bits.md). Results are computed on unbounded numbers and narrowed at the end
(00_scope.md R9, 41_alu8.md R277). -/

namespace Sys2Proof.Machine

/-- The flags, `fZ fN fH fC` (R23). -/
structure Flags where
  z : Bool
  n : Bool
  h : Bool
  c : Bool
deriving DecidableEq, Repr

/-- `fZ = F[7]`, `fN = F[6]`, `fH = F[5]`, `fC = F[4]` (R23). -/
def flagsOf (f : Byte) : Flags where
  z := f.getLsbD 7
  n := f.getLsbD 6
  h := f.getLsbD 5
  c := f.getLsbD 4

/-- The high nibble of `F` (R23). -/
def Flags.nibble (fl : Flags) : BitVec 4 :=
  BitVec.ofBool fl.z ++ BitVec.ofBool fl.n ++ BitVec.ofBool fl.h ++ BitVec.ofBool fl.c

/-- `F` with its flags replaced: "every flag-writing instruction write only `F[7:4]`" (R24). -/
def withFlags (f : Byte) (fl : Flags) : Byte := fl.nibble ++ f.setWidth 4

/-- The flags of the state. -/
def State.flags (s : State) : Flags := flagsOf s.regs.f

/-- Write the four flags. -/
def State.setFlags (s : State) (fl : Flags) : State := s.setF (withFlags s.regs.f fl)

/-! ## 8-bit arithmetic and logic -/

/-- `A + v + c` and its flags (R260, R261). -/
def addResult (a v : Byte) (cin : Bool) : Byte × Flags :=
  let s := a.toNat + v.toNat + cin.toNat
  (BitVec.ofNat 8 s,
    { z := decide (s % 256 = 0)
      n := false
      h := decide (0x0F < a.toNat % 16 + v.toNat % 16 + cin.toNat)
      c := decide (0xFF < s) })

/-- `A - v - c` and its flags (R262, R263, R267). -/
def subResult (a v : Byte) (cin : Bool) : Byte × Flags :=
  let d : Int := (a.toNat : Int) - v.toNat - cin.toNat
  (BitVec.ofInt 8 d,
    { z := decide (d % 256 = 0)
      n := true
      h := decide (a.toNat % 16 < v.toNat % 16 + cin.toNat)
      c := decide (a.toNat < v.toNat + cin.toNat) })

/-- A logic result `r`, whose only varying flag but `fZ` is `fH` (R264 to R266). -/
def logicResult (r : Byte) (h : Bool) : Byte × Flags :=
  (r, { z := decide (r = 0#8), n := false, h := h, c := false })

/-- The value written to `A` and the flags of `alu[i] A,v` (R260 to R267). `CP` writes `A` back unchanged. -/
def aluResult (op : AluOp) (a v : Byte) (cin : Bool) : Byte × Flags :=
  match op with
  | .add => addResult a v false
  | .adc => addResult a v cin
  | .sub => subResult a v false
  | .sbc => subResult a v cin
  | .and => logicResult (a &&& v) true
  | .xor => logicResult (a ^^^ v) false
  | .or => logicResult (a ||| v) false
  | .cp => (a, (subResult a v false).2)

/-- `v + 1` and its flags; `fC` is kept (R268, R269). -/
def incResult (v : Byte) (fl : Flags) : Byte × Flags :=
  let r := BitVec.ofNat 8 (v.toNat + 1)
  (r, { z := decide (r = 0#8), n := false, h := decide (v.toNat % 16 = 0x0F), c := fl.c })

/-- `v - 1` and its flags; `fC` is kept (R270, R271). -/
def decResult (v : Byte) (fl : Flags) : Byte × Flags :=
  let r := BitVec.ofInt 8 ((v.toNat : Int) - 1)
  (r, { z := decide (r = 0#8), n := true, h := decide (v.toNat % 16 = 0x00), c := fl.c })

/-- The adjustment `DAA` adds after an addition (R272). -/
def daaAddAdjust (a : Byte) (fl : Flags) : Nat :=
  (if fl.h || decide (0x09 < a.toNat % 16) then 0x06 else 0) + (if fl.c || decide (0x99 < a.toNat) then 0x60 else 0)

/-- The adjustment `DAA` subtracts after a subtraction (R272). -/
def daaSubAdjust (fl : Flags) : Nat :=
  (if fl.h then 0x06 else 0) + (if fl.c then 0x60 else 0)

/-- `DAA` (R272); `fN` is kept and, after a subtraction, so is `fC`. -/
def daaResult (a : Byte) (fl : Flags) : Byte × Flags :=
  let r :=
    if fl.n then BitVec.ofInt 8 ((a.toNat : Int) - daaSubAdjust fl) else BitVec.ofNat 8 (a.toNat + daaAddAdjust a fl)
  (r,
    { z := decide (r = 0#8)
      n := fl.n
      h := false
      c := if fl.n then fl.c else fl.c || decide (0x99 < a.toNat) })

/-! ## 16-bit arithmetic -/

/-- The sum of `ADD HL,rp` and its flags; `fZ` is kept (R300). -/
def addHlResult (a b : Word) (fl : Flags) : Word × Flags :=
  let s := a.toNat + b.toNat
  (BitVec.ofNat 16 s,
    { z := fl.z
      n := false
      h := decide (0x0FFF < a.toNat % 0x1000 + b.toNat % 0x1000)
      c := decide (0xFFFF < s) })

/-- `sext_8to16(v)` (00_scope.md R10). -/
def sext8to16 (v : Byte) : Word := v.signExtend 16

/-- `AddSPe8(sp, e)`, with the flags its two users write from it (R304, R303; 40_loads.md R223). -/
def addSpE8Result (sp : Word) (e : Byte) : Word × Flags :=
  (sp + sext8to16 e,
    { z := false
      n := false
      h := decide (0x0F < sp.toNat % 16 + e.toNat % 16)
      c := decide (0xFF < sp.toNat % 256 + e.toNat) })

/-! ## Rotates, shifts and bits -/

/-- The byte `rot[i]` makes of `v`, where `cin` is the old `fC` (R320 to R323, R330 to R337). -/
def rotValue (op : RotOp) (v : Byte) (cin : Bool) : Byte :=
  match op with
  | .rlc => v.setWidth 7 ++ BitVec.ofBool (v.getLsbD 7)
  | .rrc => BitVec.ofBool (v.getLsbD 0) ++ (v >>> 1).setWidth 7
  | .rl => v.setWidth 7 ++ BitVec.ofBool cin
  | .rr => BitVec.ofBool cin ++ (v >>> 1).setWidth 7
  | .sla => v <<< 1
  | .sra => (v >>> 1) ||| (v &&& 0x80#8)
  | .swap => (v <<< 4) ||| (v >>> 4)
  | .srl => v >>> 1

/-- The bit that leaves the byte; `SWAP` lets none out (R336). -/
def rotCarry (op : RotOp) (v : Byte) : Bool :=
  match op with
  | .rlc | .rl | .sla => v.getLsbD 7
  | .rrc | .rr | .sra | .srl => v.getLsbD 0
  | .swap => false

/-- A CB-page rotate or shift: `fZ` follows the result (R330 to R337). -/
def rotResult (op : RotOp) (v : Byte) (cin : Bool) : Byte × Flags :=
  let r := rotValue op v cin
  (r, { z := decide (r = 0#8), n := false, h := false, c := rotCarry op v })

/-- An accumulator rotate: "`fZ` is cleared even when `A` is 0x00" (R320 to R323). -/
def rotAccResult (op : RotOp) (a : Byte) (cin : Bool) : Byte × Flags :=
  (rotValue op a cin, { z := false, n := false, h := false, c := rotCarry op a })

/-- The flags of `BIT b`: `fZ` is the complement of the bit; `fC` is kept (R338). -/
def bitFlags (i : Index3) (v : Byte) (fl : Flags) : Flags :=
  { z := !v.getLsbD i.toNat, n := false, h := true, c := fl.c }

/-- `RES b` (R339). -/
def resValue (i : Index3) (v : Byte) : Byte := v &&& ~~~(1#8 <<< i.toNat)

/-- `SET b` (R340). -/
def setValue (i : Index3) (v : Byte) : Byte := v ||| (1#8 <<< i.toNat)

end Sys2Proof.Machine
end

