-- ==== Sys2Proof/Machine/Operands.lean ====
section
/-! DEFINITION. The operand forms that do not touch memory: byte registers, pair views, stack pairs and conditions
(10_state.md R20 to R22; 30_encoding.md R146 to R149). The memory form `(HL)` is a bus access at `HL`
(Machine/Ops.lean). -/

namespace Sys2Proof.Machine

/-- A byte register (R146). -/
def State.reg8 (s : State) : Reg8 → Byte
  | .b => s.regs.b
  | .c => s.regs.c
  | .d => s.regs.d
  | .e => s.regs.e
  | .h => s.regs.h
  | .l => s.regs.l
  | .a => s.regs.a

/-- Write a byte register of the file. -/
def Regs.setReg8 (g : Regs) (r : Reg8) (v : Byte) : Regs :=
  match r with
  | .b => { g with b := v }
  | .c => { g with c := v }
  | .d => { g with d := v }
  | .e => { g with e := v }
  | .h => { g with h := v }
  | .l => { g with l := v }
  | .a => { g with a := v }

/-- Write a byte register (R146). -/
def State.setReg8 (s : State) (r : Reg8) (v : Byte) : State := s.setRegs (s.regs.setReg8 r v)

/-- The high byte of a word. -/
def hiByte (v : Word) : Byte := (v >>> 8).setWidth 8

/-- The low byte of a word. -/
def loByte (v : Word) : Byte := v.setWidth 8

/-- `BC = {B, C}` (R21). -/
def State.bc (s : State) : Word := s.regs.b ++ s.regs.c

/-- `DE = {D, E}` (R21). -/
def State.de (s : State) : Word := s.regs.d ++ s.regs.e

/-- `HL = {H, L}` (R21). -/
def State.hl (s : State) : Word := s.regs.h ++ s.regs.l

/-- `AF = {A, F}` (R21). -/
def State.af (s : State) : Word := s.regs.a ++ s.regs.f

/-- Write both bytes of `BC` (R21). -/
def State.setBc (s : State) (v : Word) : State := s.setRegs { s.regs with b := hiByte v, c := loByte v }

/-- Write both bytes of `DE` (R21). -/
def State.setDe (s : State) (v : Word) : State := s.setRegs { s.regs with d := hiByte v, e := loByte v }

/-- Write both bytes of `HL` (R21). -/
def State.setHl (s : State) (v : Word) : State := s.setRegs { s.regs with h := hiByte v, l := loByte v }

/-- Write both bytes of `AF`, with zero into `F[3:0]` (R21, R24; 40_loads.md R231). -/
def State.setAf (s : State) (v : Word) : State :=
  s.setRegs { s.regs with a := hiByte v, f := loByte v &&& 0xF0#8 }

/-- Read `rp[i]` (R147). -/
def State.pair (s : State) : Pair → Word
  | .bc => s.bc
  | .de => s.de
  | .hl => s.hl
  | .sp => s.regs.sp

/-- Write `rp[i]` (R147). -/
def State.setPair (s : State) (p : Pair) (v : Word) : State :=
  match p with
  | .bc => s.setBc v
  | .de => s.setDe v
  | .hl => s.setHl v
  | .sp => s.setSp v

/-- Read `rp2[i]` (R148). -/
def State.stackPair (s : State) : StackPair → Word
  | .bc => s.bc
  | .de => s.de
  | .hl => s.hl
  | .af => s.af

/-- Write `rp2[i]` (R148). -/
def State.setStackPair (s : State) (p : StackPair) (v : Word) : State :=
  match p with
  | .bc => s.setBc v
  | .de => s.setDe v
  | .hl => s.setHl v
  | .af => s.setAf v

/-- `cond(cc)` (R149). -/
def State.holds (s : State) : Cond → Bool
  | .nz => !s.flags.z
  | .z => s.flags.z
  | .nc => !s.flags.c
  | .c => s.flags.c

end Sys2Proof.Machine
end

