-- ==== Sys2Proof/Machine/Ppu.lean ====
section
/-! DEFINITION. The pixel pipeline: rendering of one scanline (61_ppu.md R620 to R629), the mode state machine
(R600 to R611), disabling and enabling (R640, R641). -/

namespace Sys2Proof.Machine

/-! ## Palettes and tiles -/

/-- A colour number from a tile row's two bytes: bit `7 - px` of each, the high byte's bit first (R627). -/
def colourAt (lo hi : Byte) (px : Nat) : BitVec 2 :=
  BitVec.ofBool (hi.getLsbD (7 - px)) ++ BitVec.ofBool (lo.getLsbD (7 - px))

/-- `Shade(p, c)` (R626). -/
def shade (palette : Byte) (c : BitVec 2) : BitVec 2 := (palette >>> (2 * c.toNat)).setWidth 2

/-- Offset into `VRAM` of the data of background or window tile `t` (R627). -/
def tileOffset (lcdc : Byte) (t : Nat) : Nat :=
  if lcdc.getLsbD 4 then t * 16 else if t < 128 then 0x1000 + 16 * t else 0x1000 + 16 * t - 16 * 256

/-- `TilePixel(map_sel, px, py)` (R627, R628). -/
def tilePixel (p : Ppu) (vram : Memory) (mapSel : Bool) (px py : Nat) : BitVec 2 :=
  let m := if mapSel then 0x1C00 else 0x1800
  let t := (vram.read (m + (py / 8) * 32 + px / 8)).toNat
  let d := tileOffset p.lcdc t + 2 * (py % 8)
  colourAt (vram.read d) (vram.read (d + 1)) (px % 8)

/-! ## Background and window -/

/-- `BgPixel(x, ly)` (R621). -/
def bgPixel (p : Ppu) (vram : Memory) (x ly : Nat) : BitVec 2 :=
  tilePixel p vram (p.lcdc.getLsbD 3) ((x + p.scx.toNat) % 256) ((ly + p.scy.toNat) % 256)

/-- `WindowCovers(x, ly)` (R622). -/
def windowCovers (p : Ppu) (x ly : Nat) : Bool :=
  p.lcdc.getLsbD 5 && decide (p.wy.toNat ≤ ly) && decide (p.wx.toNat ≤ x + 7)

/-- `WinPixel(x, ly)` (R622). Where `FB_WIDTH` lets `x + 7 - WX` pass 255, the last column of R627, the map is read on past
the end of its row: DESIGN CHOICE, log 18. -/
def winPixel (p : Ppu) (vram : Memory) (x ly : Nat) : BitVec 2 :=
  tilePixel p vram (p.lcdc.getLsbD 6) (x + 7 - p.wx.toNat) (ly - p.wy.toNat)

/-- `under[x]`: the colour number of the non-sprite pixel (R620). -/
def underPixel (p : Ppu) (vram : Memory) (x ly : Nat) : BitVec 2 :=
  if windowCovers p x ly then winPixel p vram x ly
  else if p.lcdc.getLsbD 0 then bgPixel p vram x ly
  else 0#2

/-! ## Sprites -/

/-- Height of the sprites, `LCDC[2]` (R623). -/
def spriteHeight (p : Ppu) : Nat := if p.lcdc.getLsbD 2 then 16 else 8

/-- Byte `k` of entry `i` of the sprite attribute table (R629). -/
def oamByte (oam : Memory) (i k : Nat) : Byte := oam.read (4 * i + k)

/-- Whether sprite `i` touches scanline `ly`: `top <= ly < top + h` with `top = Y - 16` (R623). -/
def spriteOnLine (p : Ppu) (oam : Memory) (ly i : Nat) : Bool :=
  decide ((oamByte oam i 0).toNat ≤ ly + 16) && decide (ly + 16 < (oamByte oam i 0).toNat + spriteHeight p)

/-- `SelectSprites(ly)`: the first `SPRITES_PER_LINE` of the table that touch the line (R623). Entries from 40 on, where
`OAM_ENTRIES` is larger, read as zero and touch no line: DESIGN CHOICE, log 18. -/
def selectSprites (c : Config) (p : Ppu) (oam : Memory) (ly : Nat) : List Nat :=
  ((List.range c.oamEntries).filter (spriteOnLine p oam ly)).take c.spritesPerLine

/-- Tile row of sprite `i` on line `ly`, after the vertical flip (R624). -/
def spriteRow (p : Ppu) (oam : Memory) (i ly : Nat) : Nat :=
  let cy := ly + 16 - (oamByte oam i 0).toNat
  if (oamByte oam i 3).getLsbD 6 then spriteHeight p - 1 - cy else cy

/-- Tile number of sprite `i`; bit 0 is ignored when sprites are 16 high (R624). -/
def spriteTile (p : Ppu) (oam : Memory) (i : Nat) : Nat :=
  let t := oamByte oam i 2
  if p.lcdc.getLsbD 2 then (t &&& 0xFE#8).toNat else t.toNat

/-- `SpritePixel(i, x, ly)` (R624): 0 where sprite `i` does not cover column `x`. -/
def spritePixel (p : Ppu) (vram oam : Memory) (i x ly : Nat) : BitVec 2 :=
  let left := (oamByte oam i 1).toNat
  if left ≤ x + 8 ∧ x + 8 < left + 8 then
    let cx := x + 8 - left
    let cx := if (oamByte oam i 3).getLsbD 5 then 7 - cx else cx
    let d := spriteTile p oam i * 16 + 2 * spriteRow p oam i ly
    colourAt (vram.read d) (vram.read (d + 1)) cx
  else 0#2

/-- The shade the sprite layer gives column `x`, if any, over a non-sprite pixel of colour number `under`: the first
selected sprite that is opaque there decides, and is suppressed where its priority bit is set and `under` is not 0
(R620, R625). -/
def spriteShade (p : Ppu) (vram oam : Memory) (under : BitVec 2) (x ly : Nat) : List Nat → Option (BitVec 2)
  | [] => none
  | i :: sel =>
    let c := spritePixel p vram oam i x ly
    if c = 0#2 then spriteShade p vram oam under x ly sel
    else
      let attr := oamByte oam i 3
      if attr.getLsbD 7 ∧ under ≠ 0#2 then none
      else some (shade (if attr.getLsbD 4 then p.obp1 else p.obp0) c)

/-- The cell `FB[ly][x]` one rendering writes (R620), given the sprites selected on the line. -/
def linePixel (p : Ppu) (vram oam : Memory) (sel : List Nat) (ly x : Nat) : BitVec 2 :=
  let under := underPixel p vram x ly
  let background := shade p.bgp under
  if p.lcdc.getLsbD 1 then (spriteShade p vram oam under x ly sel).getD background else background

/-- `RenderScanline(ly)`: overwrites the `FB_WIDTH` cells of row `ly` and no other (R620). -/
def renderScanline (c : Config) (p : Ppu) (vram oam : Memory) (ly : Nat) : Ppu :=
  let sel := selectSprites c p oam ly
  { p with fb := Cells.fill p.fb (ly * c.fbWidth) c.fbWidth (linePixel p vram oam sel ly) }

/-! ## The mode state machine -/

/-- `STAT[1:0]` on read (R602; 20_memory.md R95). -/
def PpuMode.code : PpuMode → BitVec 2
  | .hblank => 0#2
  | .vblank => 1#2
  | .oamScan => 2#2
  | .pixelTransfer => 3#2

/-- The cycles of a mode, in VBLANK of one line; `ppu_dot` stays below it (R602, R604). -/
def PpuMode.budget (c : Config) : PpuMode → Nat
  | .oamScan => Config.oamScanCycles
  | .pixelTransfer => Config.pixelTransferCycles
  | .hblank => Config.hblankCycles
  | .vblank => c.lineCycles

/-- Whether entering a mode raises LCD-stat: `STAT[3]`, `STAT[4]`, `STAT[5]` for HBLANK, VBLANK, OAM_SCAN (R610). -/
def Ppu.entrySource (p : Ppu) : PpuMode → Bool
  | .hblank => p.stat.getLsbD 0
  | .vblank => p.stat.getLsbD 1
  | .oamScan => p.stat.getLsbD 2
  | .pixelTransfer => false

/-- `EnterMode(m)` (R601, R610). -/
def enterMode (m : PpuMode) (s : State) : State :=
  let s' := s.setPpu { s.ppu with mode := m, dot := 0 }
  if s.ppu.entrySource m then s'.raise 1 else s'

/-- `SetLY(v)` (R601, R611). "With `LYC > 153` the source never fires" (R611), as no run sets `LY` above 153; where a load has
let it pass 153 (log 11) the comparison still fires: DESIGN CHOICE, log 11. -/
def setLy (v : Byte) (s : State) : State :=
  let s' := s.setPpu { s.ppu with ly := v }
  if v = s.ppu.lyc ∧ s.ppu.stat.getLsbD 3 then s'.raise 1 else s'

/-- The rendering at the end of PIXEL_TRANSFER, from the arrays directly, for a visible line, `0 <= ly <= 143` (R601,
R620). `FB` has no row for another `LY` and is then kept (log 11: only after a load of such a state). -/
def renderCurrentLine (s : State) : State :=
  if s.ppu.ly.toNat < Config.visibleLines then
    s.setPpu (renderScanline s.cfg s.ppu s.store.vram s.store.oam s.ppu.ly.toNat)
  else s

/-- The end of HBLANK: the next scanline, and VBLANK with its pending bit at the visible-height boundary
(R601, R606). `LY` counts as a byte: DESIGN CHOICE, log 11, where a load has left HBLANK above scanline 143 with the
pipeline on, so that `LY` passes 153 and wraps from 255 to 0; R605 gives no value there. -/
def endHblank (s : State) : State :=
  let s' := setLy (s.ppu.ly + 1#8) s
  if s'.ppu.ly.toNat = Config.visibleLines then (enterMode .vblank s').raise 0 else enterMode .oamScan s'

/-- The end of a VBLANK line (R601, R605). -/
def endVblankLine (s : State) : State :=
  let s' := s.setPpu { s.ppu with dot := 0 }
  if s.ppu.ly = 153#8 then enterMode .oamScan (setLy 0#8 s') else setLy (s.ppu.ly + 1#8) s'

/-- `PpuCycle()` (R601). While the pipeline is disabled nothing progresses (R640). -/
def ppuCycle (s : State) : State :=
  if s.ppu.lcdc.getLsbD 7 then
    let s' := s.setPpu { s.ppu with dot := s.ppu.dot + 1 }
    match s.ppu.mode with
    | .oamScan => if s'.ppu.dot = Config.oamScanCycles then enterMode .pixelTransfer s' else s'
    | .pixelTransfer =>
      if s'.ppu.dot = Config.pixelTransferCycles then enterMode .hblank (renderCurrentLine s') else s'
    | .hblank => if s'.ppu.dot = Config.hblankCycles then endHblank s' else s'
    | .vblank => if s'.ppu.dot = s.cfg.lineCycles then endVblankLine s' else s'
  else s

/-! ## Disabling and enabling -/

/-- R640: "forces the state machine to HBLANK"; `LY` and `FB` are kept, nothing is raised. -/
def Ppu.disable (p : Ppu) : Ppu := { p with mode := .hblank, dot := 0 }

/-- R641: the state machine restarts at scanline 0; nothing is raised. -/
def Ppu.enable (p : Ppu) : Ppu := { p with ly := 0#8, mode := .oamScan, dot := 0 }

/-- A write to `LCDC` (20_memory.md R94). -/
def Ppu.writeLcdc (p : Ppu) (v : Byte) : Ppu :=
  let p' := { p with lcdc := v }
  if p.lcdc.getLsbD 7 && !v.getLsbD 7 then p'.disable
  else if !p.lcdc.getLsbD 7 && v.getLsbD 7 then p'.enable
  else p'

end Sys2Proof.Machine
end

