-- ==== Sys2Proof/Machine/Spu.lean ====
section
/-! DEFINITION. The audio voice synthesizer (62_spu.md R700 to R726). -/

namespace Sys2Proof.Machine

/-! ## One voice -/

/-- The envelope's update in one step (R710): attack while key-off is clear, else release, which clears both latches
when it reaches 0. -/
def Voice.stepEnvelope (c : Config) (v : Voice) : Voice :=
  if v.keyOff then
    let env := v.env - c.envStep v.release.toNat
    if env = 0 then { v with env := 0, keyOn := false, keyOff := false } else { v with env := env }
  else { v with env := min c.envMax (v.env + c.envStep v.attack.toNat) }

/-- `a asr 15`: floor division by 32768 (R712). -/
def asr15 (a : Int) : Int := a / 32768

/-- The voice's contribution to the frame: envelope gain, then volume bits 14 to 0 (R712). The sample index is
`pos >> 12` where `PITCH_ONE = 0x1000`; that another `PITCH_ONE` divides `pos` in its place is a DESIGN CHOICE (log 18). -/
def Voice.output (c : Config) (v : Voice) (sram : Cells 16) : Int :=
  let s := (sram.read (v.pos / c.pitchOne)).toInt
  asr15 (asr15 (s * v.env) * (v.volume.toNat % 32768 : Nat))

/-- `pos <- (pos + pitch) mod (SRAM_SAMPLES * 4096)` (R714), 4096 read as `PITCH_ONE` (log 18). -/
def Voice.advance (c : Config) (v : Voice) : Voice :=
  { v with pos := (v.pos + v.pitch.toNat) % (c.sramSamples * c.pitchOne) }

/-- One voice in one step: an idle voice is untouched and silent (R702, R716). -/
def Voice.step (c : Config) (sram : Cells 16) (v : Voice) : Voice × Int :=
  if v.keyOn then
    let v' := v.stepEnvelope c
    (v'.advance c, v'.output c sram)
  else (v, 0)

/-! ## One core -/

/-- `sat16(a)` (R716). -/
def sat16 (a : Int) : Int := max (-32768) (min 32767 a)

/-- The reverb's contribution for a delayed sample (R715, R716). -/
def reverbTap (c : Config) (x : BitVec 16) : Int := asr15 (x.toInt * c.reverbGain)

/-- The voices after a step and the sum of their contributions; each is mono, so both channels get the same sum
(R712, R716). -/
def SpuCore.mix (c : Config) (k : SpuCore) : List Voice × Int :=
  let r := k.voices.map (Voice.step c k.sram)
  (r.map Prod.fst, (r.map Prod.snd).sum)

/-- The frame of one core and its reverb line after it (R715, R716). -/
def SpuCore.frame (c : Config) (k : SpuCore) : SpuCore × Int × Int :=
  let (voices, acc) := k.mix c
  if k.reverbEnable then
    let outL := sat16 (acc + reverbTap c (k.rvbL.read k.rvbIdx))
    let outR := sat16 (acc + reverbTap c (k.rvbR.read k.rvbIdx))
    ({ k with
        voices := voices
        rvbL := k.rvbL.write k.rvbIdx (BitVec.ofInt 16 outL)
        rvbR := k.rvbR.write k.rvbIdx (BitVec.ofInt 16 outR)
        rvbIdx := (k.rvbIdx + 1) % c.reverbDelay }, outL, outR)
  else ({ k with voices := voices }, sat16 acc, sat16 acc)

/-- The IRQ check at the end of a step (R718). -/
def SpuCore.irqFires (k : SpuCore) : Bool := k.irqEnable && decide (k.xferAddr = k.irqAddr)

/-- `SpuStep()` of one core, less the append (R716): the core after it and its frame. -/
def SpuCore.step (c : Config) (k : SpuCore) : SpuCore × Int × Int :=
  let (k', outL, outR) := k.frame c
  (if k.irqFires then { k' with irqFlag := true } else k', outL, outR)

/-! ## All cores -/

/-- `SpuStep` of every core in index order, and the one frame appended to `outbuf` (R716, R725). The event of a core
whose IRQ fires also sets `IF[n]` where `SPU_IRQ_LINE = n` (R718; 60_exceptions.md R525). -/
def spuStep (s : State) : State :=
  let r := s.spu.cores.map (SpuCore.step s.cfg)
  let outL := sat16 ((r.map fun x => x.2.1).sum)
  let outR := sat16 ((r.map fun x => x.2.2).sum)
  let s' := s.setSpu { s.spu with
    cores := r.map Prod.fst
    outbuf := s.spu.outbuf ++ [BitVec.ofInt 16 outL, BitVec.ofInt 16 outR] }
  match s.cfg.spuIrqLine with
  | some n => if s.spu.cores.any SpuCore.irqFires then s'.raise n.val else s'
  | none => s'

/-- Phase 5 of the tick (60_exceptions.md R500, R503). -/
def spuPhase (s : State) : State :=
  if s.spu.phase + 1 = s.cfg.spuStepPeriod then spuStep (s.setSpu { s.spu with phase := 0 })
  else s.setSpu { s.spu with phase := s.spu.phase + 1 }

/-! ## Register writes -/

/-- The port operations (R720). `v` is a voice index, `w` a 16-bit value, `a` a sample index. -/
inductive SpuOp
  | setVolume (v : Nat) (w : BitVec 16)
  | setPitch (v : Nat) (w : BitVec 16)
  | setAttack (v : Nat) (w : BitVec 16)
  | setDecay (v : Nat) (w : BitVec 16)
  | setSustain (v : Nat) (w : BitVec 16)
  | setRelease (v : Nat) (w : BitVec 16)
  | setVoiceAddr (v : Nat) (a : Nat)
  | keyOn (v : Nat)
  | keyOff (v : Nat)
  | setControl (r q : Bool)
  | setIrqAddr (a : Nat)
  | setXferAddr (a : Nat)
  | writeData (w : BitVec 16)
  | ackIrq
deriving DecidableEq, Repr

/-- A write to one voice; a voice that does not exist changes nothing (R720). -/
def SpuCore.onVoice (k : SpuCore) (v : Nat) (f : Voice → Voice) : SpuCore :=
  { k with voices := k.voices.modify v f }

/-- A sample index, reduced `mod SRAM_SAMPLES` (R720). -/
def sampleIndex (c : Config) (a : Nat) : Nat := a % c.sramSamples

/-- `SpuSetVoiceAddr`: `a * 4096`, 4096 read as `PITCH_ONE` (log 18); the fraction is cleared (R720). -/
def Voice.setAddr (c : Config) (a : Nat) (v : Voice) : Voice := { v with pos := sampleIndex c a * c.pitchOne }

/-- `SpuKeyOn` (R720, R721). -/
def Voice.pressKey (v : Voice) : Voice := { v with keyOn := true, keyOff := false, env := 0 }

/-- `SpuKeyOff` (R720, R721): nothing on an idle voice. -/
def Voice.releaseKey (v : Voice) : Voice := if v.keyOn then { v with keyOff := true } else v

/-- `SpuWriteData(w)`, the transfer port (R722). -/
def SpuCore.transfer (c : Config) (k : SpuCore) (w : BitVec 16) : SpuCore :=
  { k with sram := k.sram.write k.xferAddr w, xferAddr := sampleIndex c (k.xferAddr + 1) }

/-- The effect of a port operation on a core (R720). -/
def SpuCore.port (c : Config) (k : SpuCore) : SpuOp → SpuCore
  | .setVolume v w => k.onVoice v fun x => { x with volume := w }
  | .setPitch v w => k.onVoice v fun x => { x with pitch := w }
  | .setAttack v w => k.onVoice v fun x => { x with attack := w }
  | .setDecay v w => k.onVoice v fun x => { x with decay := w }
  | .setSustain v w => k.onVoice v fun x => { x with sustain := w }
  | .setRelease v w => k.onVoice v fun x => { x with release := w }
  | .setVoiceAddr v a => k.onVoice v (Voice.setAddr c a)
  | .keyOn v => k.onVoice v Voice.pressKey
  | .keyOff v => k.onVoice v Voice.releaseKey
  | .setControl r q => { k with reverbEnable := r, irqEnable := q }
  | .setIrqAddr a => { k with irqAddr := sampleIndex c a }
  | .setXferAddr a => { k with xferAddr := sampleIndex c a }
  | .writeData w => k.transfer c w
  | .ackIrq => { k with irqFlag := false }

/-- A port operation (R720, R841) on core `n`. That it names a core and acts on that one alone, and that one on a core that
does not exist changes nothing, is a DESIGN CHOICE (log 17): no rule says which core an operation reaches. What a mapped
address reads as may be another value after it (log 16). -/
def spuPort (n : Nat) (op : SpuOp) (s : State) : State :=
  (s.setSpu { s.spu with cores := s.spu.cores.modify n fun k => k.port s.cfg op }).nextFree

/-! ## Register writes by the bus -/

/-- A byte of an argument (R723; log 7). -/
def ArgByte.value (latch : Cells 8) : ArgByte → Byte
  | .const v => v
  | .written o => latch.read o

/-- An argument assembled from its bytes, low byte first (R723; log 7). -/
def assemble (latch : Cells 8) : List ArgByte → Nat
  | [] => 0
  | b :: bs => (ArgByte.value latch b).toNat + 256 * assemble latch bs

/-- A port operation with its arguments: a voice index, and a 16-bit value, a sample index or two control bits, bit 0
being `r` and bit 1 `q` (R720). -/
def SpuOpKind.apply (voice arg : Nat) : SpuOpKind → SpuOp
  | .setVolume => .setVolume voice (BitVec.ofNat 16 arg)
  | .setPitch => .setPitch voice (BitVec.ofNat 16 arg)
  | .setAttack => .setAttack voice (BitVec.ofNat 16 arg)
  | .setDecay => .setDecay voice (BitVec.ofNat 16 arg)
  | .setSustain => .setSustain voice (BitVec.ofNat 16 arg)
  | .setRelease => .setRelease voice (BitVec.ofNat 16 arg)
  | .setVoiceAddr => .setVoiceAddr voice arg
  | .keyOn => .keyOn voice
  | .keyOff => .keyOff voice
  | .setControl => .setControl (arg.testBit 0) (arg.testBit 1)
  | .setIrqAddr => .setIrqAddr arg
  | .setXferAddr => .setXferAddr arg
  | .writeData => .writeData (BitVec.ofNat 16 arg)
  | .ackIrq => .ackIrq

/-- A bus write at an address of `SPU_IO_MAP`: the byte is kept for assembly, then the address's port operation takes
effect (20_memory.md R83, R102; R720, R723). -/
def spuBusWrite (s : State) (o : Nat) (v : Byte) : State :=
  let s' := (s.setSpu { s.spu with latch := s.spu.latch.write o v }).nextFree
  match s.cfg.spuRow o with
  | none => s'
  | some r =>
    match r.op with
    | none => s'
    | some op => spuPort r.core (SpuOpKind.apply (assemble s'.spu.latch r.voice) (assemble s'.spu.latch r.arg) op) s'

end Sys2Proof.Machine
end

