-- ==== Sys2Proof/Machine/Ops.lean ====
section
/-! DEFINITION. The bus (20_memory.md R70 to R113), the stack (40_loads.md R240, R241), fetching, and the interrupt
mechanism: dispatch as one operation (60_exceptions.md R511) and the return beside it (44_control.md R374). -/

namespace Sys2Proof.Machine

/-! ## The region table -/

/-- A region of the bus and the offset into it (R72). The echo region is none of them: it "owns no storage" (R80). -/
inductive Region
  | romFixed (o : Nat)
  | romSwitch (o : Nat)
  | vram (o : Nat)
  | eram (o : Nat)
  | wramFixed (o : Nat)
  | wramSwitch (o : Nat)
  | oam (o : Nat)
  | unmapped
  | io (o : Nat)
  | hram (o : Nat)
  | ie
deriving DecidableEq, Repr

/-- The echo redirect: `read(a)` is `read(a - mirror_offset)` (R80). -/
def unecho (m : MemoryMap) (n : Nat) : Nat := if m.echo.has n then n - m.mirrorOffset else n

/-- The region of an address that is not in the echo region, in the fixed priority order (R72). -/
def regionOf (m : MemoryMap) (n : Nat) : Region :=
  if m.romFixed.has n then .romFixed (n - m.romFixed.first)
  else if m.romSwitch.has n then .romSwitch (n - m.romSwitch.first)
  else if m.vram.has n then .vram (n - m.vram.first)
  else if m.eram.has n then .eram (n - m.eram.first)
  else if m.wramFixed.has n then .wramFixed (n - m.wramFixed.first)
  else if m.wramSwitch.has n then .wramSwitch (n - m.wramSwitch.first)
  else if m.oam.has n then .oam (n - m.oam.first)
  else if m.unmapped.has n then .unmapped
  else if m.io.has n then .io (n - m.io.first)
  else if m.hram.has n then .hram (n - m.hram.first)
  else if n = m.ie then .ie
  else .unmapped

/-- The region of an address (R72, R80). In a well-formed map the last branch of `regionOf` is out of reach. -/
def region (cfg : Config) (a : Word) : Region := regionOf cfg.memoryMap (unecho cfg.memoryMap a.toNat)

/-- Index into `ROM` of an offset in the switchable window: bank `rom_bank mod ROM_BANKS` (R74). -/
def romIndex (s : State) (o : Nat) : Nat :=
  (s.bank.romBank.toNat % s.store.romBanks) * Config.romBankSize + o

/-- Index into `ERAM` of an offset in the window: bank `ram_bank mod RAM_BANKS` (R77). -/
def eramIndex (s : State) (o : Nat) : Nat :=
  (s.bank.ramBank.toNat % s.cfg.ramBanks) * Config.ramBankSize + o

/-! ## The I/O register file -/

/-- The registers of the I/O file that are views of a component or have a side effect; `spu` is an address of
`SPU_IO_MAP`; every other address is a plain cell (R86, R87, R92, R102; 10_state.md R35). -/
inductive IoReg
  | div | tima | tma | tac | intFlag | lcdc | stat | scy | scx | ly | lyc | dma | bgp | obp0 | obp1 | wy | wx
  | romb | ramb | ramg | spu | plain
deriving DecidableEq, Repr

/-- The register at an offset of the I/O file: the fixed rows of R86 first, then the `OPEN` addresses. -/
def ioReg (cfg : Config) (o : Nat) : IoReg :=
  if o = 0x04 then .div
  else if o = 0x05 then .tima
  else if o = 0x06 then .tma
  else if o = 0x07 then .tac
  else if o = 0x0F then .intFlag
  else if o = 0x40 then .lcdc
  else if o = 0x41 then .stat
  else if o = 0x42 then .scy
  else if o = 0x43 then .scx
  else if o = 0x44 then .ly
  else if o = 0x45 then .lyc
  else if o = 0x46 then .dma
  else if o = 0x47 then .bgp
  else if o = 0x48 then .obp0
  else if o = 0x49 then .obp1
  else if o = 0x4A then .wy
  else if o = 0x4B then .wx
  else if cfg.memoryMap.io.first + o = cfg.ioRomb.toNat then .romb
  else if cfg.memoryMap.io.first + o = cfg.ioRamb.toNat then .ramb
  else if cfg.memoryMap.io.first + o = cfg.ioRamg.toNat then .ramg
  else if (cfg.spuRow o).isSome then .spu
  else .plain

/-- Whether an address of the I/O file is stored in the array `IO` (10_state.md R35). -/
def isPlainCell (cfg : Config) (o : Nat) : Bool :=
  decide (ioReg cfg o = .plain) || decide (ioReg cfg o = .dma)

/-- `STAT[1:0]` on read: the number of the mode, 0 while the pipeline is disabled (R95; 61_ppu.md R640). -/
def Ppu.readMode (p : Ppu) : BitVec 2 := if p.lcdc.getLsbD 7 then p.mode.code else 0#2

/-- `STAT` on read: `{0, STAT[6:3], (LY = LYC), m[1:0]}` (R95). -/
def Ppu.readStat (p : Ppu) : Byte :=
  0#1 ++ p.stat ++ BitVec.ofBool (decide (p.ly = p.lyc)) ++ p.readMode

/-- A read of a register of the I/O file at offset `o` (R83, R86 to R105). No read has a side effect (R113). The value of
a mapped SPU register is free (log 16). -/
def ioRead (s : State) (o : Nat) : IoReg → Byte
  | .div => s.timer.div
  | .tima => s.timer.tima
  | .tma => s.timer.tma
  | .tac => s.timer.tac.setWidth 8
  | .intFlag => s.ifReg.setWidth 8
  | .lcdc => s.ppu.lcdc
  | .stat => s.ppu.readStat
  | .scy => s.ppu.scy
  | .scx => s.ppu.scx
  | .ly => s.ppu.ly
  | .lyc => s.ppu.lyc
  | .bgp => s.ppu.bgp
  | .obp0 => s.ppu.obp0
  | .obp1 => s.ppu.obp1
  | .wy => s.ppu.wy
  | .wx => s.ppu.wx
  | .romb => s.bank.romBank
  | .ramb => s.bank.ramBank.setWidth 8
  | .ramg => (BitVec.ofBool s.bank.ramEnable).setWidth 8
  | .spu => Config.spuMapRead s.freeIndex o
  | .dma => s.store.io.read o
  | .plain => s.store.io.read o

/-! ## Reading and writing -/

/-- A read of a region at its offset (R73 to R85). -/
def regionRead (s : State) : Region → Byte
  | .romFixed o => s.store.rom.read o
  | .romSwitch o => s.store.rom.read (romIndex s o)
  | .vram o => s.store.vram.read o
  | .eram o => if s.cfg.ramBanks = 0 then 0#8 else s.store.eram.read (eramIndex s o)
  | .wramFixed o => s.store.readWram 0 o
  | .wramSwitch o => s.store.readWram 1 o
  | .oam o => s.store.oam.read o
  | .unmapped => 0#8
  | .io o => ioRead s o (ioReg s.cfg o)
  | .hram o => s.store.hram.read o
  | .ie => s.ieReg.setWidth 8

/-- `MemRead(addr, 1)`, the bus read: total (R70, R72). -/
def busRead (s : State) (a : Word) : Byte := regionRead s (region s.cfg a)

/-- `MemRead(addr, 2)`: the low byte at `addr`, the high byte at `addr + 1`, both modulo 0x10000 (00_scope.md R10). -/
def busRead16 (s : State) (a : Word) : Word := busRead s (a + 1#16) ++ busRead s a

/-- One byte of the OAM transfer: `OAM[i] <- MemRead(((v << 8) + i) mod 0x10000, 1)` (R99). -/
def dmaByte (v : Byte) (s : State) (i : Nat) : State :=
  s.setStore { s.store with oam := s.store.oam.write i (busRead s ((v ++ 0#8) + BitVec.ofNat 16 i)) }

/-- The OAM transfer: 160 bytes in increasing order, complete inside the write (R99). -/
def oamTransfer (v : Byte) (s : State) : State := (List.range 0xA0).foldl (dmaByte v) s

/-- A write of a register of the I/O file at offset `o`: the store, then the register's side effect (R83, R86 to
R105). -/
def ioWrite (s : State) (o : Nat) (v : Byte) : IoReg → State
  | .div => s.setTimer { s.timer with div := 0#8, divSub := 0 }
  | .tima => s.setTimer { s.timer with tima := v }
  | .tma => s.setTimer { s.timer with tma := v }
  | .tac => s.setTimer { s.timer with tac := v.setWidth 3 }
  | .intFlag => s.setIf (v.setWidth 5)
  | .lcdc => s.setPpu (s.ppu.writeLcdc v)
  | .stat => s.setPpu { s.ppu with stat := (v >>> 3).setWidth 4 }
  | .scy => s.setPpu { s.ppu with scy := v }
  | .scx => s.setPpu { s.ppu with scx := v }
  | .ly => s
  | .lyc => s.setPpu { s.ppu with lyc := v }
  | .bgp => s.setPpu { s.ppu with bgp := v }
  | .obp0 => s.setPpu { s.ppu with obp0 := v }
  | .obp1 => s.setPpu { s.ppu with obp1 := v }
  | .wy => s.setPpu { s.ppu with wy := v }
  | .wx => s.setPpu { s.ppu with wx := v }
  | .romb => s.setBank { s.bank with romBank := v }
  | .ramb => s.setBank { s.bank with ramBank := v.setWidth 4 }
  | .ramg => s.setBank { s.bank with ramEnable := v.getLsbD 0 }
  | .spu => spuBusWrite s o v
  | .dma => oamTransfer v (s.setStore { s.store with io := s.store.io.write o v })
  | .plain => s.setStore { s.store with io := s.store.io.write o v }

/-- A write of a region at its offset (R75 to R85). ROM and unmapped writes change nothing (R75, R82); external RAM is
written only while enabled (R77). -/
def regionWrite (s : State) (v : Byte) : Region → State
  | .romFixed _ => s
  | .romSwitch _ => s
  | .vram o => s.setStore { s.store with vram := s.store.vram.write o v }
  | .eram o =>
    if s.cfg.ramBanks = 0 ∨ s.bank.ramEnable = false then s
    else s.setStore { s.store with eram := s.store.eram.write (eramIndex s o) v }
  | .wramFixed o => s.setStore (s.store.writeWram 0 o v)
  | .wramSwitch o => s.setStore (s.store.writeWram 1 o v)
  | .oam o => s.setStore { s.store with oam := s.store.oam.write o v }
  | .unmapped => s
  | .io o => ioWrite s o v (ioReg s.cfg o)
  | .hram o => s.setStore { s.store with hram := s.store.hram.write o v }
  | .ie => s.setIe (v.setWidth 5)

/-- `MemWrite(addr, 1, v)`, the bus write: total (R70, R72). -/
def busWrite (s : State) (a : Word) (v : Byte) : State := regionWrite s v (region s.cfg a)

/-- `MemWrite(addr, 2, v)`: the low byte first (00_scope.md R10). -/
def busWrite16 (s : State) (a v : Word) : State :=
  busWrite (busWrite s a (loByte v)) (a + 1#16) (hiByte v)

/-! ## The stack -/

/-- `Push16(v)` (40_loads.md R240). -/
def push16 (v : Word) (s : State) : State :=
  let s1 := s.setSp (s.regs.sp - 1#16)
  let s2 := busWrite s1 s1.regs.sp (hiByte v)
  let s3 := s2.setSp (s2.regs.sp - 1#16)
  busWrite s3 s3.regs.sp (loByte v)

/-- The word `Pop16()` returns: the low byte at `SP`, the high byte at `SP + 1` (40_loads.md R241). -/
def popped (s : State) : Word := busRead16 s s.regs.sp

/-- What `Pop16()` leaves: `SP` raised by 2 (40_loads.md R241). -/
def afterPop (s : State) : State := s.setSp (s.regs.sp + 2#16)

/-! ## Fetching -/

/-- The instruction at `PC`: the opcode byte and the operand bytes after it, each by a bus read (60_exceptions.md R501;
20_memory.md R118), by the instruction table (00_scope.md R5). Bytes beyond the instruction's length are read and
ignored: no read has a side effect (R113; log 5). -/
def fetchInstr (s : State) : Instr :=
  s.cfg.instrTable.instr (busRead s s.regs.pc) (busRead s (s.regs.pc + 1#16)) (busRead s (s.regs.pc + 2#16))

/-- Length of the instruction at `PC` (30_encoding.md R142, R156). -/
def fetchLength (s : State) : Nat := s.cfg.instrTable.length (busRead s s.regs.pc)

/-- `PC` past every byte of the instruction, modulo 0x10000 (10_state.md R27). -/
def fetched (s : State) : State := s.setPc (s.regs.pc + BitVec.ofNat 16 (fetchLength s))

/-! ## Interrupts -/

/-- `IF & IE & 0x1F` (60_exceptions.md R500). -/
def State.pendingEnabled (s : State) : BitVec 5 := s.ifReg &&& s.ieReg

/-- The least set bit: "lowest-numbered set bit" (60_exceptions.md R511, R513). -/
def lowestSet (v : BitVec 5) : Nat :=
  if v.getLsbD 0 then 0 else if v.getLsbD 1 then 1 else if v.getLsbD 2 then 2 else if v.getLsbD 3 then 3 else 4

/-- Clear pending bit `n` of `IF`. -/
def State.clearPending (s : State) (n : Nat) : State := s.setIf (s.ifReg &&& ~~~(1#5 <<< n))

/-- Interrupt `n` taken (60_exceptions.md R500, R511): its pending bit and the latch are cleared, `PC` is pushed, `PC`
becomes the vector, `INT_DISPATCH_CYCLES` are charged. -/
def dispatchTo (n : Nat) (s : State) : State :=
  let s1 := (s.clearPending n).setIme false
  ((push16 s1.regs.pc s1).setPc (s.cfg.intVector n)).charge s.cfg.intDispatchCycles

/-- Whether the service phase dispatches (60_exceptions.md R500, R511). -/
def State.dispatches (s : State) : Bool := s.ime && decide (s.pendingEnabled ≠ 0#5)

/-- Phase 2 of the tick (60_exceptions.md R500). -/
def serviceInterrupts (s : State) : State :=
  if s.dispatches then dispatchTo (lowestSet s.pendingEnabled) s else s

/-- The return from an interrupt: `PC` popped, the latch set at once (44_control.md R374; 60_exceptions.md R516). -/
def returnFromInterrupt (s : State) : State :=
  (((afterPop s).setPc (popped s)).setIme true).setEiPending false

/-- `Wake()` (60_exceptions.md R512). -/
def State.wakes (s : State) : Bool :=
  if s.cfg.haltWakeMasked then decide (s.pendingEnabled ≠ 0#5) else decide (s.ifReg ≠ 0#5)

end Sys2Proof.Machine
end

