-- ==== Sys2Proof/Machine/Alu16.lean ====
section
/-! DEFINITION. 16-bit arithmetic instructions (42_alu16.md). -/

namespace Sys2Proof.Machine

/-- `ADD HL,rp[p]` (R300). -/
def opAddHl (p : Pair) (s : State) : Result :=
  .next (((s.setHl (addHlResult s.hl (s.pair p) s.flags).1).setFlags
    (addHlResult s.hl (s.pair p) s.flags).2).charge 8)

/-- `INC rp[p]`: no flag (R301). -/
def opIncPair (p : Pair) (s : State) : Result := .next ((s.setPair p (s.pair p + 1#16)).charge 8)

/-- `DEC rp[p]`: no flag (R302). -/
def opDecPair (p : Pair) (s : State) : Result := .next ((s.setPair p (s.pair p - 1#16)).charge 8)

/-- `ADD SP,e8` (R303). -/
def opAddSpE8 (e : Byte) (s : State) : Result :=
  .next (((s.setSp (addSpE8Result s.regs.sp e).1).setFlags (addSpE8Result s.regs.sp e).2).charge 16)

/-- `INC BC` (R301). -/
def execInc_BC (s : State) : Result := opIncPair .bc s
/-- `ADD HL,BC` (R300). -/
def execAdd_HL_BC (s : State) : Result := opAddHl .bc s
/-- `DEC BC` (R302). -/
def execDec_BC (s : State) : Result := opDecPair .bc s
/-- `INC DE` (R301). -/
def execInc_DE (s : State) : Result := opIncPair .de s
/-- `ADD HL,DE` (R300). -/
def execAdd_HL_DE (s : State) : Result := opAddHl .de s
/-- `DEC DE` (R302). -/
def execDec_DE (s : State) : Result := opDecPair .de s
/-- `INC HL` (R301). -/
def execInc_HL (s : State) : Result := opIncPair .hl s
/-- `ADD HL,HL` (R300). -/
def execAdd_HL_HL (s : State) : Result := opAddHl .hl s
/-- `DEC HL` (R302). -/
def execDec_HL (s : State) : Result := opDecPair .hl s
/-- `INC SP` (R301). -/
def execInc_SP (s : State) : Result := opIncPair .sp s
/-- `ADD HL,SP` (R300). -/
def execAdd_HL_SP (s : State) : Result := opAddHl .sp s
/-- `DEC SP` (R302). -/
def execDec_SP (s : State) : Result := opDecPair .sp s
/-- `ADD SP,e8` (R303). -/
def execAdd_SP_e8 (e : Byte) (s : State) : Result := opAddSpE8 e s

end Sys2Proof.Machine
end

