-- ==== Sys2Proof/Machine/Alu8.lean ====
section
/-! DEFINITION. 8-bit arithmetic and logic instructions (41_alu8.md). -/

namespace Sys2Proof.Machine

/-- `alu[i] A,v`: `A` and all four flags (R260 to R267, R276). -/
def aluApply (op : AluOp) (v : Byte) (s : State) : State :=
  (s.setA (aluResult op s.regs.a v s.flags.c).1).setFlags (aluResult op s.regs.a v s.flags.c).2

/-- Register form (R276). -/
def opAluReg (op : AluOp) (src : Reg8) (s : State) : Result := .next ((aluApply op (s.reg8 src) s).charge 4)

/-- Memory form (R276). -/
def opAluMem (op : AluOp) (s : State) : Result := .next ((aluApply op (busRead s s.hl) s).charge 8)

/-- Immediate form (R276). -/
def opAluImm (op : AluOp) (v : Byte) (s : State) : Result := .next ((aluApply op v s).charge 8)

/-- `INC r8[y]` (R268). -/
def opIncReg (r : Reg8) (s : State) : Result :=
  .next (((s.setReg8 r (incResult (s.reg8 r) s.flags).1).setFlags (incResult (s.reg8 r) s.flags).2).charge 4)

/-- `INC (HL)`: one read, the flags, one write (R269). -/
def opIncMem (s : State) : Result :=
  let v := busRead s s.hl
  .next ((busWrite (s.setFlags (incResult v s.flags).2) s.hl (incResult v s.flags).1).charge 12)

/-- `DEC r8[y]` (R270). -/
def opDecReg (r : Reg8) (s : State) : Result :=
  .next (((s.setReg8 r (decResult (s.reg8 r) s.flags).1).setFlags (decResult (s.reg8 r) s.flags).2).charge 4)

/-- `DEC (HL)` (R271). -/
def opDecMem (s : State) : Result :=
  let v := busRead s s.hl
  .next ((busWrite (s.setFlags (decResult v s.flags).2) s.hl (decResult v s.flags).1).charge 12)

/-- `DAA` (R272). -/
def opDaa (s : State) : Result :=
  .next (((s.setA (daaResult s.regs.a s.flags).1).setFlags (daaResult s.regs.a s.flags).2).charge 4)

/-- `CPL` (R273). -/
def opCpl (s : State) : Result :=
  .next (((s.setA (s.regs.a ^^^ 0xFF#8)).setFlags { s.flags with n := true, h := true }).charge 4)

/-- `SCF` (R274). -/
def opScf (s : State) : Result :=
  .next ((s.setFlags { s.flags with n := false, h := false, c := true }).charge 4)

/-- `CCF` (R275). -/
def opCcf (s : State) : Result :=
  .next ((s.setFlags { s.flags with n := false, h := false, c := !s.flags.c }).charge 4)

/-- `INC B` (R268). -/
def execInc_B (s : State) : Result := opIncReg .b s
/-- `DEC B` (R270). -/
def execDec_B (s : State) : Result := opDecReg .b s
/-- `INC C` (R268). -/
def execInc_C (s : State) : Result := opIncReg .c s
/-- `DEC C` (R270). -/
def execDec_C (s : State) : Result := opDecReg .c s
/-- `INC D` (R268). -/
def execInc_D (s : State) : Result := opIncReg .d s
/-- `DEC D` (R270). -/
def execDec_D (s : State) : Result := opDecReg .d s
/-- `INC E` (R268). -/
def execInc_E (s : State) : Result := opIncReg .e s
/-- `DEC E` (R270). -/
def execDec_E (s : State) : Result := opDecReg .e s
/-- `INC H` (R268). -/
def execInc_H (s : State) : Result := opIncReg .h s
/-- `DEC H` (R270). -/
def execDec_H (s : State) : Result := opDecReg .h s
/-- `DAA` (R272). -/
def execDaa (s : State) : Result := opDaa s
/-- `INC L` (R268). -/
def execInc_L (s : State) : Result := opIncReg .l s
/-- `DEC L` (R270). -/
def execDec_L (s : State) : Result := opDecReg .l s
/-- `CPL` (R273). -/
def execCpl (s : State) : Result := opCpl s
/-- `INC (HL)` (R269). -/
def execInc_atHL (s : State) : Result := opIncMem s
/-- `DEC (HL)` (R271). -/
def execDec_atHL (s : State) : Result := opDecMem s
/-- `SCF` (R274). -/
def execScf (s : State) : Result := opScf s
/-- `INC A` (R268). -/
def execInc_A (s : State) : Result := opIncReg .a s
/-- `DEC A` (R270). -/
def execDec_A (s : State) : Result := opDecReg .a s
/-- `CCF` (R275). -/
def execCcf (s : State) : Result := opCcf s
/-- `ADD A,B` (R260). -/
def execAdd_A_B (s : State) : Result := opAluReg .add .b s
/-- `ADD A,C` (R260). -/
def execAdd_A_C (s : State) : Result := opAluReg .add .c s
/-- `ADD A,D` (R260). -/
def execAdd_A_D (s : State) : Result := opAluReg .add .d s
/-- `ADD A,E` (R260). -/
def execAdd_A_E (s : State) : Result := opAluReg .add .e s
/-- `ADD A,H` (R260). -/
def execAdd_A_H (s : State) : Result := opAluReg .add .h s
/-- `ADD A,L` (R260). -/
def execAdd_A_L (s : State) : Result := opAluReg .add .l s
/-- `ADD A,(HL)` (R260). -/
def execAdd_A_atHL (s : State) : Result := opAluMem .add s
/-- `ADD A,A` (R260). -/
def execAdd_A_A (s : State) : Result := opAluReg .add .a s
/-- `ADC A,B` (R261). -/
def execAdc_A_B (s : State) : Result := opAluReg .adc .b s
/-- `ADC A,C` (R261). -/
def execAdc_A_C (s : State) : Result := opAluReg .adc .c s
/-- `ADC A,D` (R261). -/
def execAdc_A_D (s : State) : Result := opAluReg .adc .d s
/-- `ADC A,E` (R261). -/
def execAdc_A_E (s : State) : Result := opAluReg .adc .e s
/-- `ADC A,H` (R261). -/
def execAdc_A_H (s : State) : Result := opAluReg .adc .h s
/-- `ADC A,L` (R261). -/
def execAdc_A_L (s : State) : Result := opAluReg .adc .l s
/-- `ADC A,(HL)` (R261). -/
def execAdc_A_atHL (s : State) : Result := opAluMem .adc s
/-- `ADC A,A` (R261). -/
def execAdc_A_A (s : State) : Result := opAluReg .adc .a s
/-- `SUB B` (R262). -/
def execSub_B (s : State) : Result := opAluReg .sub .b s
/-- `SUB C` (R262). -/
def execSub_C (s : State) : Result := opAluReg .sub .c s
/-- `SUB D` (R262). -/
def execSub_D (s : State) : Result := opAluReg .sub .d s
/-- `SUB E` (R262). -/
def execSub_E (s : State) : Result := opAluReg .sub .e s
/-- `SUB H` (R262). -/
def execSub_H (s : State) : Result := opAluReg .sub .h s
/-- `SUB L` (R262). -/
def execSub_L (s : State) : Result := opAluReg .sub .l s
/-- `SUB (HL)` (R262). -/
def execSub_atHL (s : State) : Result := opAluMem .sub s
/-- `SUB A` (R262). -/
def execSub_A (s : State) : Result := opAluReg .sub .a s
/-- `SBC A,B` (R263). -/
def execSbc_A_B (s : State) : Result := opAluReg .sbc .b s
/-- `SBC A,C` (R263). -/
def execSbc_A_C (s : State) : Result := opAluReg .sbc .c s
/-- `SBC A,D` (R263). -/
def execSbc_A_D (s : State) : Result := opAluReg .sbc .d s
/-- `SBC A,E` (R263). -/
def execSbc_A_E (s : State) : Result := opAluReg .sbc .e s
/-- `SBC A,H` (R263). -/
def execSbc_A_H (s : State) : Result := opAluReg .sbc .h s
/-- `SBC A,L` (R263). -/
def execSbc_A_L (s : State) : Result := opAluReg .sbc .l s
/-- `SBC A,(HL)` (R263). -/
def execSbc_A_atHL (s : State) : Result := opAluMem .sbc s
/-- `SBC A,A` (R263). -/
def execSbc_A_A (s : State) : Result := opAluReg .sbc .a s
/-- `AND B` (R264). -/
def execAnd_B (s : State) : Result := opAluReg .and .b s
/-- `AND C` (R264). -/
def execAnd_C (s : State) : Result := opAluReg .and .c s
/-- `AND D` (R264). -/
def execAnd_D (s : State) : Result := opAluReg .and .d s
/-- `AND E` (R264). -/
def execAnd_E (s : State) : Result := opAluReg .and .e s
/-- `AND H` (R264). -/
def execAnd_H (s : State) : Result := opAluReg .and .h s
/-- `AND L` (R264). -/
def execAnd_L (s : State) : Result := opAluReg .and .l s
/-- `AND (HL)` (R264). -/
def execAnd_atHL (s : State) : Result := opAluMem .and s
/-- `AND A` (R264). -/
def execAnd_A (s : State) : Result := opAluReg .and .a s
/-- `XOR B` (R265). -/
def execXor_B (s : State) : Result := opAluReg .xor .b s
/-- `XOR C` (R265). -/
def execXor_C (s : State) : Result := opAluReg .xor .c s
/-- `XOR D` (R265). -/
def execXor_D (s : State) : Result := opAluReg .xor .d s
/-- `XOR E` (R265). -/
def execXor_E (s : State) : Result := opAluReg .xor .e s
/-- `XOR H` (R265). -/
def execXor_H (s : State) : Result := opAluReg .xor .h s
/-- `XOR L` (R265). -/
def execXor_L (s : State) : Result := opAluReg .xor .l s
/-- `XOR (HL)` (R265). -/
def execXor_atHL (s : State) : Result := opAluMem .xor s
/-- `XOR A` (R265). -/
def execXor_A (s : State) : Result := opAluReg .xor .a s
/-- `OR B` (R266). -/
def execOr_B (s : State) : Result := opAluReg .or .b s
/-- `OR C` (R266). -/
def execOr_C (s : State) : Result := opAluReg .or .c s
/-- `OR D` (R266). -/
def execOr_D (s : State) : Result := opAluReg .or .d s
/-- `OR E` (R266). -/
def execOr_E (s : State) : Result := opAluReg .or .e s
/-- `OR H` (R266). -/
def execOr_H (s : State) : Result := opAluReg .or .h s
/-- `OR L` (R266). -/
def execOr_L (s : State) : Result := opAluReg .or .l s
/-- `OR (HL)` (R266). -/
def execOr_atHL (s : State) : Result := opAluMem .or s
/-- `OR A` (R266). -/
def execOr_A (s : State) : Result := opAluReg .or .a s
/-- `CP B` (R267). -/
def execCp_B (s : State) : Result := opAluReg .cp .b s
/-- `CP C` (R267). -/
def execCp_C (s : State) : Result := opAluReg .cp .c s
/-- `CP D` (R267). -/
def execCp_D (s : State) : Result := opAluReg .cp .d s
/-- `CP E` (R267). -/
def execCp_E (s : State) : Result := opAluReg .cp .e s
/-- `CP H` (R267). -/
def execCp_H (s : State) : Result := opAluReg .cp .h s
/-- `CP L` (R267). -/
def execCp_L (s : State) : Result := opAluReg .cp .l s
/-- `CP (HL)` (R267). -/
def execCp_atHL (s : State) : Result := opAluMem .cp s
/-- `CP A` (R267). -/
def execCp_A (s : State) : Result := opAluReg .cp .a s
/-- `ADD A,d8` (R260). -/
def execAdd_A_d8 (v : Byte) (s : State) : Result := opAluImm .add v s
/-- `ADC A,d8` (R261). -/
def execAdc_A_d8 (v : Byte) (s : State) : Result := opAluImm .adc v s
/-- `SUB d8` (R262). -/
def execSub_d8 (v : Byte) (s : State) : Result := opAluImm .sub v s
/-- `SBC A,d8` (R263). -/
def execSbc_A_d8 (v : Byte) (s : State) : Result := opAluImm .sbc v s
/-- `AND d8` (R264). -/
def execAnd_d8 (v : Byte) (s : State) : Result := opAluImm .and v s
/-- `XOR d8` (R265). -/
def execXor_d8 (v : Byte) (s : State) : Result := opAluImm .xor v s
/-- `OR d8` (R266). -/
def execOr_d8 (v : Byte) (s : State) : Result := opAluImm .or v s
/-- `CP d8` (R267). -/
def execCp_d8 (v : Byte) (s : State) : Result := opAluImm .cp v s

end Sys2Proof.Machine
end

