-- ==== Sys2Proof/Machine/Control.lean ====
section
/-! DEFINITION. Control-transfer instructions (44_control.md). Operand bytes are fetched whether or not the condition
holds, so `PC` is past the whole instruction when a meaning runs (R365). -/

namespace Sys2Proof.Machine

/-- `PC <- (PC + sext_8to16(e)) mod 0x10000` (R363). -/
def jumpRelative (e : Byte) (s : State) : State := s.setPc (s.regs.pc + sext8to16 e)

/-- `Push16(PC); PC <- t` (R370). -/
def callTo (t : Word) (s : State) : State := (push16 s.regs.pc s).setPc t

/-- `PC <- Pop16()` (R372). -/
def returnToPopped (s : State) : State := (afterPop s).setPc (popped s)

/-- `JP a16` (R360). -/
def opJp (t : Word) (s : State) : Result := .next ((s.setPc t).charge 16)

/-- `JP cc,a16` (R361). -/
def opJpCond (cc : Cond) (t : Word) (s : State) : Result :=
  .next (if s.holds cc then (s.setPc t).charge 16 else s.charge 12)

/-- `JP HL` (R362). -/
def opJpHl (s : State) : Result := .next ((s.setPc s.hl).charge 4)

/-- `JR e8` (R363). -/
def opJr (e : Byte) (s : State) : Result := .next ((jumpRelative e s).charge 12)

/-- `JR cc,e8` (R364). -/
def opJrCond (cc : Cond) (e : Byte) (s : State) : Result :=
  .next (if s.holds cc then (jumpRelative e s).charge 12 else s.charge 8)

/-- `CALL a16` (R370). -/
def opCall (t : Word) (s : State) : Result := .next ((callTo t s).charge 24)

/-- `CALL cc,a16` (R371). -/
def opCallCond (cc : Cond) (t : Word) (s : State) : Result :=
  .next (if s.holds cc then (callTo t s).charge 24 else s.charge 12)

/-- `RET` (R372). -/
def opRet (s : State) : Result := .next ((returnToPopped s).charge 16)

/-- `RET cc` (R373). -/
def opRetCond (cc : Cond) (s : State) : Result :=
  .next (if s.holds cc then (returnToPopped s).charge 20 else s.charge 8)

/-- `RETI` (R374). -/
def opReti (s : State) : Result := .next ((returnFromInterrupt s).charge 16)

/-- `RST y*8` (R376). -/
def opRst (y : Index3) (s : State) : Result :=
  .next ((callTo (BitVec.ofNat 16 (y.toNat * 8)) s).charge 16)

/-- `JR e8` (R363). -/
def execJr_e8 (e : Byte) (s : State) : Result := opJr e s
/-- `JR NZ,e8` (R364). -/
def execJr_NZ_e8 (e : Byte) (s : State) : Result := opJrCond .nz e s
/-- `JR Z,e8` (R364). -/
def execJr_Z_e8 (e : Byte) (s : State) : Result := opJrCond .z e s
/-- `JR NC,e8` (R364). -/
def execJr_NC_e8 (e : Byte) (s : State) : Result := opJrCond .nc e s
/-- `JR C,e8` (R364). -/
def execJr_C_e8 (e : Byte) (s : State) : Result := opJrCond .c e s
/-- `RET NZ` (R373). -/
def execRet_NZ (s : State) : Result := opRetCond .nz s
/-- `JP NZ,a16` (R361). -/
def execJp_NZ_a16 (a : Word) (s : State) : Result := opJpCond .nz a s
/-- `JP a16` (R360). -/
def execJp_a16 (a : Word) (s : State) : Result := opJp a s
/-- `CALL NZ,a16` (R371). -/
def execCall_NZ_a16 (a : Word) (s : State) : Result := opCallCond .nz a s
/-- `RST 0x00` (R376). -/
def execRst_00 (s : State) : Result := opRst .i0 s
/-- `RET Z` (R373). -/
def execRet_Z (s : State) : Result := opRetCond .z s
/-- `RET` (R372). -/
def execRet (s : State) : Result := opRet s
/-- `JP Z,a16` (R361). -/
def execJp_Z_a16 (a : Word) (s : State) : Result := opJpCond .z a s
/-- `CALL Z,a16` (R371). -/
def execCall_Z_a16 (a : Word) (s : State) : Result := opCallCond .z a s
/-- `CALL a16` (R370). -/
def execCall_a16 (a : Word) (s : State) : Result := opCall a s
/-- `RST 0x08` (R376). -/
def execRst_08 (s : State) : Result := opRst .i1 s
/-- `RET NC` (R373). -/
def execRet_NC (s : State) : Result := opRetCond .nc s
/-- `JP NC,a16` (R361). -/
def execJp_NC_a16 (a : Word) (s : State) : Result := opJpCond .nc a s
/-- `CALL NC,a16` (R371). -/
def execCall_NC_a16 (a : Word) (s : State) : Result := opCallCond .nc a s
/-- `RST 0x10` (R376). -/
def execRst_10 (s : State) : Result := opRst .i2 s
/-- `RET C` (R373). -/
def execRet_C (s : State) : Result := opRetCond .c s
/-- `RETI` (R374). -/
def execReti (s : State) : Result := opReti s
/-- `JP C,a16` (R361). -/
def execJp_C_a16 (a : Word) (s : State) : Result := opJpCond .c a s
/-- `CALL C,a16` (R371). -/
def execCall_C_a16 (a : Word) (s : State) : Result := opCallCond .c a s
/-- `RST 0x18` (R376). -/
def execRst_18 (s : State) : Result := opRst .i3 s
/-- `RST 0x20` (R376). -/
def execRst_20 (s : State) : Result := opRst .i4 s
/-- `JP HL` (R362). -/
def execJp_HL (s : State) : Result := opJpHl s
/-- `RST 0x28` (R376). -/
def execRst_28 (s : State) : Result := opRst .i5 s
/-- `RST 0x30` (R376). -/
def execRst_30 (s : State) : Result := opRst .i6 s
/-- `RST 0x38` (R376). -/
def execRst_38 (s : State) : Result := opRst .i7 s

end Sys2Proof.Machine
end

