-- ==== Sys2Proof/Machine/Loads.lean ====
section
/-! DEFINITION. Loads, stores and stack instructions (40_loads.md). `PC` is already past the instruction's bytes when
a meaning runs (Machine/Step.lean). -/

namespace Sys2Proof.Machine

/-- The address `0xFF00 + n` (30_encoding.md R143). -/
def ioPage (n : Byte) : Word := 0xFF#8 ++ n

/-- `r8[y] <- r8[z]` (R200). -/
def opLdRegReg (dst src : Reg8) (s : State) : Result := .next ((s.setReg8 dst (s.reg8 src)).charge 4)

/-- `r8[y] <- MemRead(HL, 1)`, at the `HL` before the write (R201). -/
def opLdRegMem (dst : Reg8) (s : State) : Result := .next ((s.setReg8 dst (busRead s s.hl)).charge 8)

/-- `MemWrite(HL, 1, r8[z])` (R202). -/
def opLdMemReg (src : Reg8) (s : State) : Result := .next ((busWrite s s.hl (s.reg8 src)).charge 8)

/-- `r8[y] <- d8` (R203). -/
def opLdRegImm (dst : Reg8) (v : Byte) (s : State) : Result := .next ((s.setReg8 dst v).charge 8)

/-- `MemWrite(HL, 1, d8)` (R204). -/
def opLdMemImm (v : Byte) (s : State) : Result := .next ((busWrite s s.hl v).charge 12)

/-- `A <- MemRead(a, 1)` (R205, R206, R209, R211, R213). -/
def opLoadA (a : Word) (n : Nat) (s : State) : Result := .next ((s.setA (busRead s a)).charge n)

/-- `MemWrite(a, 1, A)` (R207, R208, R210, R212, R214). -/
def opStoreA (a : Word) (n : Nat) (s : State) : Result := .next ((busWrite s a s.regs.a).charge n)

/-- `A <- MemRead(HL, 1)`, then `HL` moved by `d` modulo 0x10000 (R217, R218). -/
def opLoadAStep (d : Word) (s : State) : Result :=
  .next (((s.setA (busRead s s.hl)).setHl (s.hl + d)).charge 8)

/-- `MemWrite(HL, 1, A)`, then `HL` moved by `d` modulo 0x10000 (R215, R216). -/
def opStoreAStep (d : Word) (s : State) : Result :=
  .next (((busWrite s s.hl s.regs.a).setHl (s.hl + d)).charge 8)

/-- `rp[p] <- d16` (R220). -/
def opLdPairImm (p : Pair) (v : Word) (s : State) : Result := .next ((s.setPair p v).charge 12)

/-- `MemWrite(a, 2, SP)`, the low byte first (R221). -/
def opStoreSp (a : Word) (s : State) : Result := .next ((busWrite16 s a s.regs.sp).charge 20)

/-- `SP <- HL` (R222). -/
def opLdSpHl (s : State) : Result := .next ((s.setSp s.hl).charge 8)

/-- `HL <- SP + e8` with the flags of `AddSPe8` (R223). -/
def opLdHlSpE8 (e : Byte) (s : State) : Result :=
  .next (((s.setHl (addSpE8Result s.regs.sp e).1).setFlags (addSpE8Result s.regs.sp e).2).charge 12)

/-- `Push16(rp2[p])` (R230). -/
def opPush (p : StackPair) (s : State) : Result := .next ((push16 (s.stackPair p) s).charge 16)

/-- `rp2[p] <- Pop16()` (R231). -/
def opPop (p : StackPair) (s : State) : Result := .next (((afterPop s).setStackPair p (popped s)).charge 12)

/-- `LD BC,d16` (R220). -/
def execLd_BC_d16 (v : Word) (s : State) : Result := opLdPairImm .bc v s
/-- `LD (BC),A` (R207). -/
def execLd_atBC_A (s : State) : Result := opStoreA s.bc 8 s
/-- `LD B,d8` (R203). -/
def execLd_B_d8 (v : Byte) (s : State) : Result := opLdRegImm .b v s
/-- `LD (a16),SP` (R221). -/
def execLd_atA16_SP (a : Word) (s : State) : Result := opStoreSp a s
/-- `LD A,(BC)` (R205). -/
def execLd_A_atBC (s : State) : Result := opLoadA s.bc 8 s
/-- `LD C,d8` (R203). -/
def execLd_C_d8 (v : Byte) (s : State) : Result := opLdRegImm .c v s
/-- `LD DE,d16` (R220). -/
def execLd_DE_d16 (v : Word) (s : State) : Result := opLdPairImm .de v s
/-- `LD (DE),A` (R208). -/
def execLd_atDE_A (s : State) : Result := opStoreA s.de 8 s
/-- `LD D,d8` (R203). -/
def execLd_D_d8 (v : Byte) (s : State) : Result := opLdRegImm .d v s
/-- `LD A,(DE)` (R206). -/
def execLd_A_atDE (s : State) : Result := opLoadA s.de 8 s
/-- `LD E,d8` (R203). -/
def execLd_E_d8 (v : Byte) (s : State) : Result := opLdRegImm .e v s
/-- `LD HL,d16` (R220). -/
def execLd_HL_d16 (v : Word) (s : State) : Result := opLdPairImm .hl v s
/-- `LD (HL+),A` (R215). -/
def execLd_atHLinc_A (s : State) : Result := opStoreAStep 1#16 s
/-- `LD H,d8` (R203). -/
def execLd_H_d8 (v : Byte) (s : State) : Result := opLdRegImm .h v s
/-- `LD A,(HL+)` (R217). -/
def execLd_A_atHLinc (s : State) : Result := opLoadAStep 1#16 s
/-- `LD L,d8` (R203). -/
def execLd_L_d8 (v : Byte) (s : State) : Result := opLdRegImm .l v s
/-- `LD SP,d16` (R220). -/
def execLd_SP_d16 (v : Word) (s : State) : Result := opLdPairImm .sp v s
/-- `LD (HL-),A` (R216). -/
def execLd_atHLdec_A (s : State) : Result := opStoreAStep 0xFFFF#16 s
/-- `LD (HL),d8` (R204). -/
def execLd_atHL_d8 (v : Byte) (s : State) : Result := opLdMemImm v s
/-- `LD A,(HL-)` (R218). -/
def execLd_A_atHLdec (s : State) : Result := opLoadAStep 0xFFFF#16 s
/-- `LD A,d8` (R203). -/
def execLd_A_d8 (v : Byte) (s : State) : Result := opLdRegImm .a v s
/-- `LD B,B` (R200). -/
def execLd_B_B (s : State) : Result := opLdRegReg .b .b s
/-- `LD B,C` (R200). -/
def execLd_B_C (s : State) : Result := opLdRegReg .b .c s
/-- `LD B,D` (R200). -/
def execLd_B_D (s : State) : Result := opLdRegReg .b .d s
/-- `LD B,E` (R200). -/
def execLd_B_E (s : State) : Result := opLdRegReg .b .e s
/-- `LD B,H` (R200). -/
def execLd_B_H (s : State) : Result := opLdRegReg .b .h s
/-- `LD B,L` (R200). -/
def execLd_B_L (s : State) : Result := opLdRegReg .b .l s
/-- `LD B,(HL)` (R201). -/
def execLd_B_atHL (s : State) : Result := opLdRegMem .b s
/-- `LD B,A` (R200). -/
def execLd_B_A (s : State) : Result := opLdRegReg .b .a s
/-- `LD C,B` (R200). -/
def execLd_C_B (s : State) : Result := opLdRegReg .c .b s
/-- `LD C,C` (R200). -/
def execLd_C_C (s : State) : Result := opLdRegReg .c .c s
/-- `LD C,D` (R200). -/
def execLd_C_D (s : State) : Result := opLdRegReg .c .d s
/-- `LD C,E` (R200). -/
def execLd_C_E (s : State) : Result := opLdRegReg .c .e s
/-- `LD C,H` (R200). -/
def execLd_C_H (s : State) : Result := opLdRegReg .c .h s
/-- `LD C,L` (R200). -/
def execLd_C_L (s : State) : Result := opLdRegReg .c .l s
/-- `LD C,(HL)` (R201). -/
def execLd_C_atHL (s : State) : Result := opLdRegMem .c s
/-- `LD C,A` (R200). -/
def execLd_C_A (s : State) : Result := opLdRegReg .c .a s
/-- `LD D,B` (R200). -/
def execLd_D_B (s : State) : Result := opLdRegReg .d .b s
/-- `LD D,C` (R200). -/
def execLd_D_C (s : State) : Result := opLdRegReg .d .c s
/-- `LD D,D` (R200). -/
def execLd_D_D (s : State) : Result := opLdRegReg .d .d s
/-- `LD D,E` (R200). -/
def execLd_D_E (s : State) : Result := opLdRegReg .d .e s
/-- `LD D,H` (R200). -/
def execLd_D_H (s : State) : Result := opLdRegReg .d .h s
/-- `LD D,L` (R200). -/
def execLd_D_L (s : State) : Result := opLdRegReg .d .l s
/-- `LD D,(HL)` (R201). -/
def execLd_D_atHL (s : State) : Result := opLdRegMem .d s
/-- `LD D,A` (R200). -/
def execLd_D_A (s : State) : Result := opLdRegReg .d .a s
/-- `LD E,B` (R200). -/
def execLd_E_B (s : State) : Result := opLdRegReg .e .b s
/-- `LD E,C` (R200). -/
def execLd_E_C (s : State) : Result := opLdRegReg .e .c s
/-- `LD E,D` (R200). -/
def execLd_E_D (s : State) : Result := opLdRegReg .e .d s
/-- `LD E,E` (R200). -/
def execLd_E_E (s : State) : Result := opLdRegReg .e .e s
/-- `LD E,H` (R200). -/
def execLd_E_H (s : State) : Result := opLdRegReg .e .h s
/-- `LD E,L` (R200). -/
def execLd_E_L (s : State) : Result := opLdRegReg .e .l s
/-- `LD E,(HL)` (R201). -/
def execLd_E_atHL (s : State) : Result := opLdRegMem .e s
/-- `LD E,A` (R200). -/
def execLd_E_A (s : State) : Result := opLdRegReg .e .a s
/-- `LD H,B` (R200). -/
def execLd_H_B (s : State) : Result := opLdRegReg .h .b s
/-- `LD H,C` (R200). -/
def execLd_H_C (s : State) : Result := opLdRegReg .h .c s
/-- `LD H,D` (R200). -/
def execLd_H_D (s : State) : Result := opLdRegReg .h .d s
/-- `LD H,E` (R200). -/
def execLd_H_E (s : State) : Result := opLdRegReg .h .e s
/-- `LD H,H` (R200). -/
def execLd_H_H (s : State) : Result := opLdRegReg .h .h s
/-- `LD H,L` (R200). -/
def execLd_H_L (s : State) : Result := opLdRegReg .h .l s
/-- `LD H,(HL)` (R201). -/
def execLd_H_atHL (s : State) : Result := opLdRegMem .h s
/-- `LD H,A` (R200). -/
def execLd_H_A (s : State) : Result := opLdRegReg .h .a s
/-- `LD L,B` (R200). -/
def execLd_L_B (s : State) : Result := opLdRegReg .l .b s
/-- `LD L,C` (R200). -/
def execLd_L_C (s : State) : Result := opLdRegReg .l .c s
/-- `LD L,D` (R200). -/
def execLd_L_D (s : State) : Result := opLdRegReg .l .d s
/-- `LD L,E` (R200). -/
def execLd_L_E (s : State) : Result := opLdRegReg .l .e s
/-- `LD L,H` (R200). -/
def execLd_L_H (s : State) : Result := opLdRegReg .l .h s
/-- `LD L,L` (R200). -/
def execLd_L_L (s : State) : Result := opLdRegReg .l .l s
/-- `LD L,(HL)` (R201). -/
def execLd_L_atHL (s : State) : Result := opLdRegMem .l s
/-- `LD L,A` (R200). -/
def execLd_L_A (s : State) : Result := opLdRegReg .l .a s
/-- `LD (HL),B` (R202). -/
def execLd_atHL_B (s : State) : Result := opLdMemReg .b s
/-- `LD (HL),C` (R202). -/
def execLd_atHL_C (s : State) : Result := opLdMemReg .c s
/-- `LD (HL),D` (R202). -/
def execLd_atHL_D (s : State) : Result := opLdMemReg .d s
/-- `LD (HL),E` (R202). -/
def execLd_atHL_E (s : State) : Result := opLdMemReg .e s
/-- `LD (HL),H` (R202). -/
def execLd_atHL_H (s : State) : Result := opLdMemReg .h s
/-- `LD (HL),L` (R202). -/
def execLd_atHL_L (s : State) : Result := opLdMemReg .l s
/-- `LD (HL),A` (R202). -/
def execLd_atHL_A (s : State) : Result := opLdMemReg .a s
/-- `LD A,B` (R200). -/
def execLd_A_B (s : State) : Result := opLdRegReg .a .b s
/-- `LD A,C` (R200). -/
def execLd_A_C (s : State) : Result := opLdRegReg .a .c s
/-- `LD A,D` (R200). -/
def execLd_A_D (s : State) : Result := opLdRegReg .a .d s
/-- `LD A,E` (R200). -/
def execLd_A_E (s : State) : Result := opLdRegReg .a .e s
/-- `LD A,H` (R200). -/
def execLd_A_H (s : State) : Result := opLdRegReg .a .h s
/-- `LD A,L` (R200). -/
def execLd_A_L (s : State) : Result := opLdRegReg .a .l s
/-- `LD A,(HL)` (R201). -/
def execLd_A_atHL (s : State) : Result := opLdRegMem .a s
/-- `LD A,A` (R200). -/
def execLd_A_A (s : State) : Result := opLdRegReg .a .a s
/-- `POP BC` (R231). -/
def execPop_BC (s : State) : Result := opPop .bc s
/-- `PUSH BC` (R230). -/
def execPush_BC (s : State) : Result := opPush .bc s
/-- `POP DE` (R231). -/
def execPop_DE (s : State) : Result := opPop .de s
/-- `PUSH DE` (R230). -/
def execPush_DE (s : State) : Result := opPush .de s
/-- `LDH (a8),A` (R212). -/
def execLdh_atA8_A (n : Byte) (s : State) : Result := opStoreA (ioPage n) 12 s
/-- `POP HL` (R231). -/
def execPop_HL (s : State) : Result := opPop .hl s
/-- `LD (C),A` (R214). -/
def execLd_atC_A (s : State) : Result := opStoreA (ioPage s.regs.c) 8 s
/-- `PUSH HL` (R230). -/
def execPush_HL (s : State) : Result := opPush .hl s
/-- `LD (a16),A` (R210). -/
def execLd_atA16_A (a : Word) (s : State) : Result := opStoreA a 16 s
/-- `LDH A,(a8)` (R211). -/
def execLdh_A_atA8 (n : Byte) (s : State) : Result := opLoadA (ioPage n) 12 s
/-- `POP AF` (R231). -/
def execPop_AF (s : State) : Result := opPop .af s
/-- `LD A,(C)` (R213). -/
def execLd_A_atC (s : State) : Result := opLoadA (ioPage s.regs.c) 8 s
/-- `PUSH AF` (R230). -/
def execPush_AF (s : State) : Result := opPush .af s
/-- `LD HL,SP+e8` (R223). -/
def execLd_HL_SPe8 (e : Byte) (s : State) : Result := opLdHlSpE8 e s
/-- `LD SP,HL` (R222). -/
def execLd_SP_HL (s : State) : Result := opLdSpHl s
/-- `LD A,(a16)` (R209). -/
def execLd_A_atA16 (a : Word) (s : State) : Result := opLoadA a 16 s

end Sys2Proof.Machine
end

