-- ==== Sys2Proof/Machine/Bits.lean ====
section
/-! DEFINITION. Bit test, clear and set (43_rotates_bits.md R338 to R340). -/

namespace Sys2Proof.Machine

/-- `BIT b,r8[z]`, register form (R338). -/
def opBitReg (i : Index3) (r : Reg8) (s : State) : Result :=
  .next ((s.setFlags (bitFlags i (s.reg8 r) s.flags)).charge 8)

/-- `BIT b,(HL)`: reads once, never writes (R338). -/
def opBitMem (i : Index3) (s : State) : Result :=
  .next ((s.setFlags (bitFlags i (busRead s s.hl) s.flags)).charge 12)

/-- `RES b,r8[z]`, register form (R339). -/
def opResReg (i : Index3) (r : Reg8) (s : State) : Result :=
  .next ((s.setReg8 r (resValue i (s.reg8 r))).charge 8)

/-- `RES b,(HL)` (R339). -/
def opResMem (i : Index3) (s : State) : Result :=
  .next ((busWrite s s.hl (resValue i (busRead s s.hl))).charge 16)

/-- `SET b,r8[z]`, register form (R340). -/
def opSetReg (i : Index3) (r : Reg8) (s : State) : Result :=
  .next ((s.setReg8 r (setValue i (s.reg8 r))).charge 8)

/-- `SET b,(HL)` (R340). -/
def opSetMem (i : Index3) (s : State) : Result :=
  .next ((busWrite s s.hl (setValue i (busRead s s.hl))).charge 16)

/-- `BIT 0,B` (R338). -/
def execBit_0_B (s : State) : Result := opBitReg .i0 .b s
/-- `BIT 0,C` (R338). -/
def execBit_0_C (s : State) : Result := opBitReg .i0 .c s
/-- `BIT 0,D` (R338). -/
def execBit_0_D (s : State) : Result := opBitReg .i0 .d s
/-- `BIT 0,E` (R338). -/
def execBit_0_E (s : State) : Result := opBitReg .i0 .e s
/-- `BIT 0,H` (R338). -/
def execBit_0_H (s : State) : Result := opBitReg .i0 .h s
/-- `BIT 0,L` (R338). -/
def execBit_0_L (s : State) : Result := opBitReg .i0 .l s
/-- `BIT 0,(HL)` (R338). -/
def execBit_0_atHL (s : State) : Result := opBitMem .i0 s
/-- `BIT 0,A` (R338). -/
def execBit_0_A (s : State) : Result := opBitReg .i0 .a s
/-- `BIT 1,B` (R338). -/
def execBit_1_B (s : State) : Result := opBitReg .i1 .b s
/-- `BIT 1,C` (R338). -/
def execBit_1_C (s : State) : Result := opBitReg .i1 .c s
/-- `BIT 1,D` (R338). -/
def execBit_1_D (s : State) : Result := opBitReg .i1 .d s
/-- `BIT 1,E` (R338). -/
def execBit_1_E (s : State) : Result := opBitReg .i1 .e s
/-- `BIT 1,H` (R338). -/
def execBit_1_H (s : State) : Result := opBitReg .i1 .h s
/-- `BIT 1,L` (R338). -/
def execBit_1_L (s : State) : Result := opBitReg .i1 .l s
/-- `BIT 1,(HL)` (R338). -/
def execBit_1_atHL (s : State) : Result := opBitMem .i1 s
/-- `BIT 1,A` (R338). -/
def execBit_1_A (s : State) : Result := opBitReg .i1 .a s
/-- `BIT 2,B` (R338). -/
def execBit_2_B (s : State) : Result := opBitReg .i2 .b s
/-- `BIT 2,C` (R338). -/
def execBit_2_C (s : State) : Result := opBitReg .i2 .c s
/-- `BIT 2,D` (R338). -/
def execBit_2_D (s : State) : Result := opBitReg .i2 .d s
/-- `BIT 2,E` (R338). -/
def execBit_2_E (s : State) : Result := opBitReg .i2 .e s
/-- `BIT 2,H` (R338). -/
def execBit_2_H (s : State) : Result := opBitReg .i2 .h s
/-- `BIT 2,L` (R338). -/
def execBit_2_L (s : State) : Result := opBitReg .i2 .l s
/-- `BIT 2,(HL)` (R338). -/
def execBit_2_atHL (s : State) : Result := opBitMem .i2 s
/-- `BIT 2,A` (R338). -/
def execBit_2_A (s : State) : Result := opBitReg .i2 .a s
/-- `BIT 3,B` (R338). -/
def execBit_3_B (s : State) : Result := opBitReg .i3 .b s
/-- `BIT 3,C` (R338). -/
def execBit_3_C (s : State) : Result := opBitReg .i3 .c s
/-- `BIT 3,D` (R338). -/
def execBit_3_D (s : State) : Result := opBitReg .i3 .d s
/-- `BIT 3,E` (R338). -/
def execBit_3_E (s : State) : Result := opBitReg .i3 .e s
/-- `BIT 3,H` (R338). -/
def execBit_3_H (s : State) : Result := opBitReg .i3 .h s
/-- `BIT 3,L` (R338). -/
def execBit_3_L (s : State) : Result := opBitReg .i3 .l s
/-- `BIT 3,(HL)` (R338). -/
def execBit_3_atHL (s : State) : Result := opBitMem .i3 s
/-- `BIT 3,A` (R338). -/
def execBit_3_A (s : State) : Result := opBitReg .i3 .a s
/-- `BIT 4,B` (R338). -/
def execBit_4_B (s : State) : Result := opBitReg .i4 .b s
/-- `BIT 4,C` (R338). -/
def execBit_4_C (s : State) : Result := opBitReg .i4 .c s
/-- `BIT 4,D` (R338). -/
def execBit_4_D (s : State) : Result := opBitReg .i4 .d s
/-- `BIT 4,E` (R338). -/
def execBit_4_E (s : State) : Result := opBitReg .i4 .e s
/-- `BIT 4,H` (R338). -/
def execBit_4_H (s : State) : Result := opBitReg .i4 .h s
/-- `BIT 4,L` (R338). -/
def execBit_4_L (s : State) : Result := opBitReg .i4 .l s
/-- `BIT 4,(HL)` (R338). -/
def execBit_4_atHL (s : State) : Result := opBitMem .i4 s
/-- `BIT 4,A` (R338). -/
def execBit_4_A (s : State) : Result := opBitReg .i4 .a s
/-- `BIT 5,B` (R338). -/
def execBit_5_B (s : State) : Result := opBitReg .i5 .b s
/-- `BIT 5,C` (R338). -/
def execBit_5_C (s : State) : Result := opBitReg .i5 .c s
/-- `BIT 5,D` (R338). -/
def execBit_5_D (s : State) : Result := opBitReg .i5 .d s
/-- `BIT 5,E` (R338). -/
def execBit_5_E (s : State) : Result := opBitReg .i5 .e s
/-- `BIT 5,H` (R338). -/
def execBit_5_H (s : State) : Result := opBitReg .i5 .h s
/-- `BIT 5,L` (R338). -/
def execBit_5_L (s : State) : Result := opBitReg .i5 .l s
/-- `BIT 5,(HL)` (R338). -/
def execBit_5_atHL (s : State) : Result := opBitMem .i5 s
/-- `BIT 5,A` (R338). -/
def execBit_5_A (s : State) : Result := opBitReg .i5 .a s
/-- `BIT 6,B` (R338). -/
def execBit_6_B (s : State) : Result := opBitReg .i6 .b s
/-- `BIT 6,C` (R338). -/
def execBit_6_C (s : State) : Result := opBitReg .i6 .c s
/-- `BIT 6,D` (R338). -/
def execBit_6_D (s : State) : Result := opBitReg .i6 .d s
/-- `BIT 6,E` (R338). -/
def execBit_6_E (s : State) : Result := opBitReg .i6 .e s
/-- `BIT 6,H` (R338). -/
def execBit_6_H (s : State) : Result := opBitReg .i6 .h s
/-- `BIT 6,L` (R338). -/
def execBit_6_L (s : State) : Result := opBitReg .i6 .l s
/-- `BIT 6,(HL)` (R338). -/
def execBit_6_atHL (s : State) : Result := opBitMem .i6 s
/-- `BIT 6,A` (R338). -/
def execBit_6_A (s : State) : Result := opBitReg .i6 .a s
/-- `BIT 7,B` (R338). -/
def execBit_7_B (s : State) : Result := opBitReg .i7 .b s
/-- `BIT 7,C` (R338). -/
def execBit_7_C (s : State) : Result := opBitReg .i7 .c s
/-- `BIT 7,D` (R338). -/
def execBit_7_D (s : State) : Result := opBitReg .i7 .d s
/-- `BIT 7,E` (R338). -/
def execBit_7_E (s : State) : Result := opBitReg .i7 .e s
/-- `BIT 7,H` (R338). -/
def execBit_7_H (s : State) : Result := opBitReg .i7 .h s
/-- `BIT 7,L` (R338). -/
def execBit_7_L (s : State) : Result := opBitReg .i7 .l s
/-- `BIT 7,(HL)` (R338). -/
def execBit_7_atHL (s : State) : Result := opBitMem .i7 s
/-- `BIT 7,A` (R338). -/
def execBit_7_A (s : State) : Result := opBitReg .i7 .a s
/-- `RES 0,B` (R339). -/
def execRes_0_B (s : State) : Result := opResReg .i0 .b s
/-- `RES 0,C` (R339). -/
def execRes_0_C (s : State) : Result := opResReg .i0 .c s
/-- `RES 0,D` (R339). -/
def execRes_0_D (s : State) : Result := opResReg .i0 .d s
/-- `RES 0,E` (R339). -/
def execRes_0_E (s : State) : Result := opResReg .i0 .e s
/-- `RES 0,H` (R339). -/
def execRes_0_H (s : State) : Result := opResReg .i0 .h s
/-- `RES 0,L` (R339). -/
def execRes_0_L (s : State) : Result := opResReg .i0 .l s
/-- `RES 0,(HL)` (R339). -/
def execRes_0_atHL (s : State) : Result := opResMem .i0 s
/-- `RES 0,A` (R339). -/
def execRes_0_A (s : State) : Result := opResReg .i0 .a s
/-- `RES 1,B` (R339). -/
def execRes_1_B (s : State) : Result := opResReg .i1 .b s
/-- `RES 1,C` (R339). -/
def execRes_1_C (s : State) : Result := opResReg .i1 .c s
/-- `RES 1,D` (R339). -/
def execRes_1_D (s : State) : Result := opResReg .i1 .d s
/-- `RES 1,E` (R339). -/
def execRes_1_E (s : State) : Result := opResReg .i1 .e s
/-- `RES 1,H` (R339). -/
def execRes_1_H (s : State) : Result := opResReg .i1 .h s
/-- `RES 1,L` (R339). -/
def execRes_1_L (s : State) : Result := opResReg .i1 .l s
/-- `RES 1,(HL)` (R339). -/
def execRes_1_atHL (s : State) : Result := opResMem .i1 s
/-- `RES 1,A` (R339). -/
def execRes_1_A (s : State) : Result := opResReg .i1 .a s
/-- `RES 2,B` (R339). -/
def execRes_2_B (s : State) : Result := opResReg .i2 .b s
/-- `RES 2,C` (R339). -/
def execRes_2_C (s : State) : Result := opResReg .i2 .c s
/-- `RES 2,D` (R339). -/
def execRes_2_D (s : State) : Result := opResReg .i2 .d s
/-- `RES 2,E` (R339). -/
def execRes_2_E (s : State) : Result := opResReg .i2 .e s
/-- `RES 2,H` (R339). -/
def execRes_2_H (s : State) : Result := opResReg .i2 .h s
/-- `RES 2,L` (R339). -/
def execRes_2_L (s : State) : Result := opResReg .i2 .l s
/-- `RES 2,(HL)` (R339). -/
def execRes_2_atHL (s : State) : Result := opResMem .i2 s
/-- `RES 2,A` (R339). -/
def execRes_2_A (s : State) : Result := opResReg .i2 .a s
/-- `RES 3,B` (R339). -/
def execRes_3_B (s : State) : Result := opResReg .i3 .b s
/-- `RES 3,C` (R339). -/
def execRes_3_C (s : State) : Result := opResReg .i3 .c s
/-- `RES 3,D` (R339). -/
def execRes_3_D (s : State) : Result := opResReg .i3 .d s
/-- `RES 3,E` (R339). -/
def execRes_3_E (s : State) : Result := opResReg .i3 .e s
/-- `RES 3,H` (R339). -/
def execRes_3_H (s : State) : Result := opResReg .i3 .h s
/-- `RES 3,L` (R339). -/
def execRes_3_L (s : State) : Result := opResReg .i3 .l s
/-- `RES 3,(HL)` (R339). -/
def execRes_3_atHL (s : State) : Result := opResMem .i3 s
/-- `RES 3,A` (R339). -/
def execRes_3_A (s : State) : Result := opResReg .i3 .a s
/-- `RES 4,B` (R339). -/
def execRes_4_B (s : State) : Result := opResReg .i4 .b s
/-- `RES 4,C` (R339). -/
def execRes_4_C (s : State) : Result := opResReg .i4 .c s
/-- `RES 4,D` (R339). -/
def execRes_4_D (s : State) : Result := opResReg .i4 .d s
/-- `RES 4,E` (R339). -/
def execRes_4_E (s : State) : Result := opResReg .i4 .e s
/-- `RES 4,H` (R339). -/
def execRes_4_H (s : State) : Result := opResReg .i4 .h s
/-- `RES 4,L` (R339). -/
def execRes_4_L (s : State) : Result := opResReg .i4 .l s
/-- `RES 4,(HL)` (R339). -/
def execRes_4_atHL (s : State) : Result := opResMem .i4 s
/-- `RES 4,A` (R339). -/
def execRes_4_A (s : State) : Result := opResReg .i4 .a s
/-- `RES 5,B` (R339). -/
def execRes_5_B (s : State) : Result := opResReg .i5 .b s
/-- `RES 5,C` (R339). -/
def execRes_5_C (s : State) : Result := opResReg .i5 .c s
/-- `RES 5,D` (R339). -/
def execRes_5_D (s : State) : Result := opResReg .i5 .d s
/-- `RES 5,E` (R339). -/
def execRes_5_E (s : State) : Result := opResReg .i5 .e s
/-- `RES 5,H` (R339). -/
def execRes_5_H (s : State) : Result := opResReg .i5 .h s
/-- `RES 5,L` (R339). -/
def execRes_5_L (s : State) : Result := opResReg .i5 .l s
/-- `RES 5,(HL)` (R339). -/
def execRes_5_atHL (s : State) : Result := opResMem .i5 s
/-- `RES 5,A` (R339). -/
def execRes_5_A (s : State) : Result := opResReg .i5 .a s
/-- `RES 6,B` (R339). -/
def execRes_6_B (s : State) : Result := opResReg .i6 .b s
/-- `RES 6,C` (R339). -/
def execRes_6_C (s : State) : Result := opResReg .i6 .c s
/-- `RES 6,D` (R339). -/
def execRes_6_D (s : State) : Result := opResReg .i6 .d s
/-- `RES 6,E` (R339). -/
def execRes_6_E (s : State) : Result := opResReg .i6 .e s
/-- `RES 6,H` (R339). -/
def execRes_6_H (s : State) : Result := opResReg .i6 .h s
/-- `RES 6,L` (R339). -/
def execRes_6_L (s : State) : Result := opResReg .i6 .l s
/-- `RES 6,(HL)` (R339). -/
def execRes_6_atHL (s : State) : Result := opResMem .i6 s
/-- `RES 6,A` (R339). -/
def execRes_6_A (s : State) : Result := opResReg .i6 .a s
/-- `RES 7,B` (R339). -/
def execRes_7_B (s : State) : Result := opResReg .i7 .b s
/-- `RES 7,C` (R339). -/
def execRes_7_C (s : State) : Result := opResReg .i7 .c s
/-- `RES 7,D` (R339). -/
def execRes_7_D (s : State) : Result := opResReg .i7 .d s
/-- `RES 7,E` (R339). -/
def execRes_7_E (s : State) : Result := opResReg .i7 .e s
/-- `RES 7,H` (R339). -/
def execRes_7_H (s : State) : Result := opResReg .i7 .h s
/-- `RES 7,L` (R339). -/
def execRes_7_L (s : State) : Result := opResReg .i7 .l s
/-- `RES 7,(HL)` (R339). -/
def execRes_7_atHL (s : State) : Result := opResMem .i7 s
/-- `RES 7,A` (R339). -/
def execRes_7_A (s : State) : Result := opResReg .i7 .a s
/-- `SET 0,B` (R340). -/
def execSet_0_B (s : State) : Result := opSetReg .i0 .b s
/-- `SET 0,C` (R340). -/
def execSet_0_C (s : State) : Result := opSetReg .i0 .c s
/-- `SET 0,D` (R340). -/
def execSet_0_D (s : State) : Result := opSetReg .i0 .d s
/-- `SET 0,E` (R340). -/
def execSet_0_E (s : State) : Result := opSetReg .i0 .e s
/-- `SET 0,H` (R340). -/
def execSet_0_H (s : State) : Result := opSetReg .i0 .h s
/-- `SET 0,L` (R340). -/
def execSet_0_L (s : State) : Result := opSetReg .i0 .l s
/-- `SET 0,(HL)` (R340). -/
def execSet_0_atHL (s : State) : Result := opSetMem .i0 s
/-- `SET 0,A` (R340). -/
def execSet_0_A (s : State) : Result := opSetReg .i0 .a s
/-- `SET 1,B` (R340). -/
def execSet_1_B (s : State) : Result := opSetReg .i1 .b s
/-- `SET 1,C` (R340). -/
def execSet_1_C (s : State) : Result := opSetReg .i1 .c s
/-- `SET 1,D` (R340). -/
def execSet_1_D (s : State) : Result := opSetReg .i1 .d s
/-- `SET 1,E` (R340). -/
def execSet_1_E (s : State) : Result := opSetReg .i1 .e s
/-- `SET 1,H` (R340). -/
def execSet_1_H (s : State) : Result := opSetReg .i1 .h s
/-- `SET 1,L` (R340). -/
def execSet_1_L (s : State) : Result := opSetReg .i1 .l s
/-- `SET 1,(HL)` (R340). -/
def execSet_1_atHL (s : State) : Result := opSetMem .i1 s
/-- `SET 1,A` (R340). -/
def execSet_1_A (s : State) : Result := opSetReg .i1 .a s
/-- `SET 2,B` (R340). -/
def execSet_2_B (s : State) : Result := opSetReg .i2 .b s
/-- `SET 2,C` (R340). -/
def execSet_2_C (s : State) : Result := opSetReg .i2 .c s
/-- `SET 2,D` (R340). -/
def execSet_2_D (s : State) : Result := opSetReg .i2 .d s
/-- `SET 2,E` (R340). -/
def execSet_2_E (s : State) : Result := opSetReg .i2 .e s
/-- `SET 2,H` (R340). -/
def execSet_2_H (s : State) : Result := opSetReg .i2 .h s
/-- `SET 2,L` (R340). -/
def execSet_2_L (s : State) : Result := opSetReg .i2 .l s
/-- `SET 2,(HL)` (R340). -/
def execSet_2_atHL (s : State) : Result := opSetMem .i2 s
/-- `SET 2,A` (R340). -/
def execSet_2_A (s : State) : Result := opSetReg .i2 .a s
/-- `SET 3,B` (R340). -/
def execSet_3_B (s : State) : Result := opSetReg .i3 .b s
/-- `SET 3,C` (R340). -/
def execSet_3_C (s : State) : Result := opSetReg .i3 .c s
/-- `SET 3,D` (R340). -/
def execSet_3_D (s : State) : Result := opSetReg .i3 .d s
/-- `SET 3,E` (R340). -/
def execSet_3_E (s : State) : Result := opSetReg .i3 .e s
/-- `SET 3,H` (R340). -/
def execSet_3_H (s : State) : Result := opSetReg .i3 .h s
/-- `SET 3,L` (R340). -/
def execSet_3_L (s : State) : Result := opSetReg .i3 .l s
/-- `SET 3,(HL)` (R340). -/
def execSet_3_atHL (s : State) : Result := opSetMem .i3 s
/-- `SET 3,A` (R340). -/
def execSet_3_A (s : State) : Result := opSetReg .i3 .a s
/-- `SET 4,B` (R340). -/
def execSet_4_B (s : State) : Result := opSetReg .i4 .b s
/-- `SET 4,C` (R340). -/
def execSet_4_C (s : State) : Result := opSetReg .i4 .c s
/-- `SET 4,D` (R340). -/
def execSet_4_D (s : State) : Result := opSetReg .i4 .d s
/-- `SET 4,E` (R340). -/
def execSet_4_E (s : State) : Result := opSetReg .i4 .e s
/-- `SET 4,H` (R340). -/
def execSet_4_H (s : State) : Result := opSetReg .i4 .h s
/-- `SET 4,L` (R340). -/
def execSet_4_L (s : State) : Result := opSetReg .i4 .l s
/-- `SET 4,(HL)` (R340). -/
def execSet_4_atHL (s : State) : Result := opSetMem .i4 s
/-- `SET 4,A` (R340). -/
def execSet_4_A (s : State) : Result := opSetReg .i4 .a s
/-- `SET 5,B` (R340). -/
def execSet_5_B (s : State) : Result := opSetReg .i5 .b s
/-- `SET 5,C` (R340). -/
def execSet_5_C (s : State) : Result := opSetReg .i5 .c s
/-- `SET 5,D` (R340). -/
def execSet_5_D (s : State) : Result := opSetReg .i5 .d s
/-- `SET 5,E` (R340). -/
def execSet_5_E (s : State) : Result := opSetReg .i5 .e s
/-- `SET 5,H` (R340). -/
def execSet_5_H (s : State) : Result := opSetReg .i5 .h s
/-- `SET 5,L` (R340). -/
def execSet_5_L (s : State) : Result := opSetReg .i5 .l s
/-- `SET 5,(HL)` (R340). -/
def execSet_5_atHL (s : State) : Result := opSetMem .i5 s
/-- `SET 5,A` (R340). -/
def execSet_5_A (s : State) : Result := opSetReg .i5 .a s
/-- `SET 6,B` (R340). -/
def execSet_6_B (s : State) : Result := opSetReg .i6 .b s
/-- `SET 6,C` (R340). -/
def execSet_6_C (s : State) : Result := opSetReg .i6 .c s
/-- `SET 6,D` (R340). -/
def execSet_6_D (s : State) : Result := opSetReg .i6 .d s
/-- `SET 6,E` (R340). -/
def execSet_6_E (s : State) : Result := opSetReg .i6 .e s
/-- `SET 6,H` (R340). -/
def execSet_6_H (s : State) : Result := opSetReg .i6 .h s
/-- `SET 6,L` (R340). -/
def execSet_6_L (s : State) : Result := opSetReg .i6 .l s
/-- `SET 6,(HL)` (R340). -/
def execSet_6_atHL (s : State) : Result := opSetMem .i6 s
/-- `SET 6,A` (R340). -/
def execSet_6_A (s : State) : Result := opSetReg .i6 .a s
/-- `SET 7,B` (R340). -/
def execSet_7_B (s : State) : Result := opSetReg .i7 .b s
/-- `SET 7,C` (R340). -/
def execSet_7_C (s : State) : Result := opSetReg .i7 .c s
/-- `SET 7,D` (R340). -/
def execSet_7_D (s : State) : Result := opSetReg .i7 .d s
/-- `SET 7,E` (R340). -/
def execSet_7_E (s : State) : Result := opSetReg .i7 .e s
/-- `SET 7,H` (R340). -/
def execSet_7_H (s : State) : Result := opSetReg .i7 .h s
/-- `SET 7,L` (R340). -/
def execSet_7_L (s : State) : Result := opSetReg .i7 .l s
/-- `SET 7,(HL)` (R340). -/
def execSet_7_atHL (s : State) : Result := opSetMem .i7 s
/-- `SET 7,A` (R340). -/
def execSet_7_A (s : State) : Result := opSetReg .i7 .a s

end Sys2Proof.Machine
end

