-- ==== Sys2Proof/Machine/Rotates.lean ====
section
/-! DEFINITION. Rotates and shifts (43_rotates_bits.md R320 to R337). -/

namespace Sys2Proof.Machine

/-- An accumulator rotate (R320 to R323). -/
def opRotAcc (op : RotOp) (s : State) : Result :=
  .next (((s.setA (rotAccResult op s.regs.a s.flags.c).1).setFlags (rotAccResult op s.regs.a s.flags.c).2).charge 4)

/-- A CB-page rotate or shift, register form (R329 to R337). -/
def opRotReg (op : RotOp) (r : Reg8) (s : State) : Result :=
  .next (((s.setReg8 r (rotResult op (s.reg8 r) s.flags.c).1).setFlags
    (rotResult op (s.reg8 r) s.flags.c).2).charge 8)

/-- A CB-page rotate or shift on `(HL)`: one read, one write (R329 to R337). -/
def opRotMem (op : RotOp) (s : State) : Result :=
  let v := busRead s s.hl
  .next ((busWrite (s.setFlags (rotResult op v s.flags.c).2) s.hl (rotResult op v s.flags.c).1).charge 16)

/-- `RLCA` (R320). -/
def execRlca (s : State) : Result := opRotAcc .rlc s
/-- `RRCA` (R321). -/
def execRrca (s : State) : Result := opRotAcc .rrc s
/-- `RLA` (R322). -/
def execRla (s : State) : Result := opRotAcc .rl s
/-- `RRA` (R323). -/
def execRra (s : State) : Result := opRotAcc .rr s
/-- `RLC B` (R330). -/
def execRlc_B (s : State) : Result := opRotReg .rlc .b s
/-- `RLC C` (R330). -/
def execRlc_C (s : State) : Result := opRotReg .rlc .c s
/-- `RLC D` (R330). -/
def execRlc_D (s : State) : Result := opRotReg .rlc .d s
/-- `RLC E` (R330). -/
def execRlc_E (s : State) : Result := opRotReg .rlc .e s
/-- `RLC H` (R330). -/
def execRlc_H (s : State) : Result := opRotReg .rlc .h s
/-- `RLC L` (R330). -/
def execRlc_L (s : State) : Result := opRotReg .rlc .l s
/-- `RLC (HL)` (R330). -/
def execRlc_atHL (s : State) : Result := opRotMem .rlc s
/-- `RLC A` (R330). -/
def execRlc_A (s : State) : Result := opRotReg .rlc .a s
/-- `RRC B` (R331). -/
def execRrc_B (s : State) : Result := opRotReg .rrc .b s
/-- `RRC C` (R331). -/
def execRrc_C (s : State) : Result := opRotReg .rrc .c s
/-- `RRC D` (R331). -/
def execRrc_D (s : State) : Result := opRotReg .rrc .d s
/-- `RRC E` (R331). -/
def execRrc_E (s : State) : Result := opRotReg .rrc .e s
/-- `RRC H` (R331). -/
def execRrc_H (s : State) : Result := opRotReg .rrc .h s
/-- `RRC L` (R331). -/
def execRrc_L (s : State) : Result := opRotReg .rrc .l s
/-- `RRC (HL)` (R331). -/
def execRrc_atHL (s : State) : Result := opRotMem .rrc s
/-- `RRC A` (R331). -/
def execRrc_A (s : State) : Result := opRotReg .rrc .a s
/-- `RL B` (R332). -/
def execRl_B (s : State) : Result := opRotReg .rl .b s
/-- `RL C` (R332). -/
def execRl_C (s : State) : Result := opRotReg .rl .c s
/-- `RL D` (R332). -/
def execRl_D (s : State) : Result := opRotReg .rl .d s
/-- `RL E` (R332). -/
def execRl_E (s : State) : Result := opRotReg .rl .e s
/-- `RL H` (R332). -/
def execRl_H (s : State) : Result := opRotReg .rl .h s
/-- `RL L` (R332). -/
def execRl_L (s : State) : Result := opRotReg .rl .l s
/-- `RL (HL)` (R332). -/
def execRl_atHL (s : State) : Result := opRotMem .rl s
/-- `RL A` (R332). -/
def execRl_A (s : State) : Result := opRotReg .rl .a s
/-- `RR B` (R333). -/
def execRr_B (s : State) : Result := opRotReg .rr .b s
/-- `RR C` (R333). -/
def execRr_C (s : State) : Result := opRotReg .rr .c s
/-- `RR D` (R333). -/
def execRr_D (s : State) : Result := opRotReg .rr .d s
/-- `RR E` (R333). -/
def execRr_E (s : State) : Result := opRotReg .rr .e s
/-- `RR H` (R333). -/
def execRr_H (s : State) : Result := opRotReg .rr .h s
/-- `RR L` (R333). -/
def execRr_L (s : State) : Result := opRotReg .rr .l s
/-- `RR (HL)` (R333). -/
def execRr_atHL (s : State) : Result := opRotMem .rr s
/-- `RR A` (R333). -/
def execRr_A (s : State) : Result := opRotReg .rr .a s
/-- `SLA B` (R334). -/
def execSla_B (s : State) : Result := opRotReg .sla .b s
/-- `SLA C` (R334). -/
def execSla_C (s : State) : Result := opRotReg .sla .c s
/-- `SLA D` (R334). -/
def execSla_D (s : State) : Result := opRotReg .sla .d s
/-- `SLA E` (R334). -/
def execSla_E (s : State) : Result := opRotReg .sla .e s
/-- `SLA H` (R334). -/
def execSla_H (s : State) : Result := opRotReg .sla .h s
/-- `SLA L` (R334). -/
def execSla_L (s : State) : Result := opRotReg .sla .l s
/-- `SLA (HL)` (R334). -/
def execSla_atHL (s : State) : Result := opRotMem .sla s
/-- `SLA A` (R334). -/
def execSla_A (s : State) : Result := opRotReg .sla .a s
/-- `SRA B` (R335). -/
def execSra_B (s : State) : Result := opRotReg .sra .b s
/-- `SRA C` (R335). -/
def execSra_C (s : State) : Result := opRotReg .sra .c s
/-- `SRA D` (R335). -/
def execSra_D (s : State) : Result := opRotReg .sra .d s
/-- `SRA E` (R335). -/
def execSra_E (s : State) : Result := opRotReg .sra .e s
/-- `SRA H` (R335). -/
def execSra_H (s : State) : Result := opRotReg .sra .h s
/-- `SRA L` (R335). -/
def execSra_L (s : State) : Result := opRotReg .sra .l s
/-- `SRA (HL)` (R335). -/
def execSra_atHL (s : State) : Result := opRotMem .sra s
/-- `SRA A` (R335). -/
def execSra_A (s : State) : Result := opRotReg .sra .a s
/-- `SWAP B` (R336). -/
def execSwap_B (s : State) : Result := opRotReg .swap .b s
/-- `SWAP C` (R336). -/
def execSwap_C (s : State) : Result := opRotReg .swap .c s
/-- `SWAP D` (R336). -/
def execSwap_D (s : State) : Result := opRotReg .swap .d s
/-- `SWAP E` (R336). -/
def execSwap_E (s : State) : Result := opRotReg .swap .e s
/-- `SWAP H` (R336). -/
def execSwap_H (s : State) : Result := opRotReg .swap .h s
/-- `SWAP L` (R336). -/
def execSwap_L (s : State) : Result := opRotReg .swap .l s
/-- `SWAP (HL)` (R336). -/
def execSwap_atHL (s : State) : Result := opRotMem .swap s
/-- `SWAP A` (R336). -/
def execSwap_A (s : State) : Result := opRotReg .swap .a s
/-- `SRL B` (R337). -/
def execSrl_B (s : State) : Result := opRotReg .srl .b s
/-- `SRL C` (R337). -/
def execSrl_C (s : State) : Result := opRotReg .srl .c s
/-- `SRL D` (R337). -/
def execSrl_D (s : State) : Result := opRotReg .srl .d s
/-- `SRL E` (R337). -/
def execSrl_E (s : State) : Result := opRotReg .srl .e s
/-- `SRL H` (R337). -/
def execSrl_H (s : State) : Result := opRotReg .srl .h s
/-- `SRL L` (R337). -/
def execSrl_L (s : State) : Result := opRotReg .srl .l s
/-- `SRL (HL)` (R337). -/
def execSrl_atHL (s : State) : Result := opRotMem .srl s
/-- `SRL A` (R337). -/
def execSrl_A (s : State) : Result := opRotReg .srl .a s

end Sys2Proof.Machine
end

