-- ==== Sys2Proof/Machine/System.lean ====
section
/-! DEFINITION. System instructions, the CB prefix and unknown opcodes (45_system.md). -/

namespace Sys2Proof.Machine

/-- `NOP` (R390). -/
def opNop (s : State) : Result := .next (s.charge 4)

/-- `HALT` (R391). -/
def opHalt (s : State) : Result := .next ((s.setHalted true).charge 4)

/-- `DI` (R392). -/
def opDi (s : State) : Result := .next (((s.setIme false).setEiPending false).charge 4)

/-- `EI`: at once where `EI_DELAY = 0`, else after the next instruction (R393). -/
def opEi (s : State) : Result :=
  .next ((if s.cfg.eiDelay then s.setEiPending true else s.setIme true).charge 4)

/-- An unknown opcode, fetched from `PC - 1`: the event and nothing else (R396). -/
def opUnknown (op : Byte) (s : State) : Result :=
  .next ((s.logEvent (.unknownOpcode op (s.regs.pc - 1#16))).charge s.cfg.unknownOpCycles)

/-- "execute the CB-page instruction selected by s", by the fields of the sub-opcode (R394; 30_encoding.md R154). -/
def cbPage (sub : Byte) (s : State) : Result :=
  let y := fieldY sub
  match fieldX sub, Reg8.ofIndex (fieldZ sub) with
  | 0, some r => opRotReg (RotOp.ofIndex y) r s
  | 0, none => opRotMem (RotOp.ofIndex y) s
  | 1, some r => opBitReg (Index3.ofIndex y) r s
  | 1, none => opBitMem (Index3.ofIndex y) s
  | 2, some r => opResReg (Index3.ofIndex y) r s
  | 2, none => opResMem (Index3.ofIndex y) s
  | _, some r => opSetReg (Index3.ofIndex y) r s
  | _, none => opSetMem (Index3.ofIndex y) s

/-- `NOP` (R390). -/
def execNop (s : State) : Result := opNop s
/-- `UNKNOWN` (R396). -/
def execUnknown (op : Byte) (s : State) : Result := opUnknown op s
/-- `HALT` (R391). -/
def execHalt (s : State) : Result := opHalt s
/-- `PREFIX CB`: the CB-page instruction the table has at the sub-opcode (R394; 30_encoding.md R156). -/
def execPrefixCb (sub : Byte) (s : State) : Result := cbPage (s.cfg.instrTable.cbRow sub) s
/-- `DI` (R392). -/
def execDi (s : State) : Result := opDi s
/-- `EI` (R393). -/
def execEi (s : State) : Result := opEi s

end Sys2Proof.Machine
end

