-- ==== Sys2Proof/Machine/Timer.lean ====
section
/-! DEFINITION. The divider and the gated counter (60_exceptions.md R540 to R545). -/

namespace Sys2Proof.Machine

/-- `TIMA_PERIOD[TAC[1:0]]` (R540; 00_scope.md R6). -/
def timaPeriod (c : Config) (tac : BitVec 3) : Nat := c.timaPeriod (tac.setWidth 2).toNat

/-- The divider's part of `TimerCycle` (R541, R542). -/
def Timer.stepDivider (c : Config) (t : Timer) : Timer :=
  if t.divSub + 1 = c.divPeriod then { t with divSub := 0, div := t.div + 1#8 }
  else { t with divSub := t.divSub + 1 }

/-- Whether the gated counter overflows in this cycle (R541, R543). -/
def Timer.overflows (c : Config) (t : Timer) : Bool :=
  t.tac.getLsbD 2 && decide (timaPeriod c t.tac ≤ t.timaSub + 1) && decide (t.tima = 0xFF#8)

/-- The gated counter's part of `TimerCycle` (R541, R543). -/
def Timer.stepCounter (c : Config) (t : Timer) : Timer :=
  if t.tac.getLsbD 2 then
    if timaPeriod c t.tac ≤ t.timaSub + 1 then
      { t with timaSub := 0, tima := if t.tima = 0xFF#8 then t.tma else t.tima + 1#8 }
    else { t with timaSub := t.timaSub + 1 }
  else t

/-- `TimerCycle()` (R541). The overflow raises the timer pending bit, `IF[2]` (R522). -/
def timerCycle (s : State) : State :=
  let t := s.timer.stepDivider s.cfg
  let s' := s.setTimer (t.stepCounter s.cfg)
  if t.overflows s.cfg then s'.raise 2 else s'

end Sys2Proof.Machine
end

