-- ==== Sys2Proof/Machine/Tick.lean ====
section
/-! DEFINITION. The machine tick (60_exceptions.md R500 to R503), phase by phase, and the placing of an instruction
where the next tick fetches. -/

namespace Sys2Proof.Machine

/-! ## Phases 4 and 5 -/

/-- One cycle of the peripherals: the timer, then the PPU (R502). -/
def peripheralCycle (s : State) : State := ppuCycle (timerCycle s)

/-- `repeat n times: TimerCycle(); PpuCycle()` (R500). -/
def peripheralCycles : Nat → State → State
  | 0, s => s
  | n + 1, s => peripheralCycles n (peripheralCycle s)

/-- Phases 4 and 5: the peripherals by the cycles the tick has charged, then the SPU (R500). The next tick has free
values of its own (log 16). -/
def advancePeripherals (s : State) : State := (spuPhase (peripheralCycles s.cycles s)).nextFree

/-! ## Phases 1 to 3 -/

/-- The end of the execute phase where `EI_DELAY = 1`: `arm` is `ei_pending` before the instruction (R500). -/
def armLatch (arm : Bool) (s : State) : State :=
  if s.cfg.eiDelay && arm && s.eiPending then (s.setIme true).setEiPending false else s

/-- Phases 3 to 5 on a state whose next fetch is at `PC`: one instruction, then the peripherals (R500, R501). -/
def executePhase (s : State) : Result :=
  match exec (fetchInstr s) (fetched s) with
  | .next t => .next (advancePeripherals (armLatch s.eiPending t))
  | .fault r => .fault r
  | .refused r => .refused r

/-- Whether the tick stays halted: "while `IF[4:0] = 0` the tick fetches nothing" (R500, R512; 45_system.md R391). -/
def State.idles (s : State) : Bool := s.halted && !s.wakes

/-- The state the fetch of this tick sees: no cycle charged yet, halt left, the interrupt taken if there is one
(phases 1 and 2 of R500). -/
def readyToFetch (s : State) : State := serviceInterrupts ((s.setCycles 0).setHalted false)

/-- An idle halted tick (R500). -/
def idleTick (s : State) : State := advancePeripherals ((s.setCycles 0).charge s.cfg.haltIdleCycles)

/-- `Tick()` (R500). Refused while no ROM is loaded (70_reset_and_hazards.md R832; log 3). -/
def tick (s : State) : Result :=
  if s.store.romBanks = 0 then .refused .noRomLoaded
  else if s.idles then .next (idleTick s)
  else executePhase (readyToFetch s)

/-! ## Placing an instruction -/

/-- Whether an address is backed by a byte of an array, so that an instruction can be stored there. -/
def State.backed (s : State) (a : Word) : Bool :=
  match region s.cfg a with
  | .romFixed _ | .romSwitch _ | .vram _ | .wramFixed _ | .wramSwitch _ | .oam _ | .hram _ => true
  | .eram _ => decide (s.cfg.ramBanks ≠ 0)
  | .unmapped | .io _ | .ie => false

/-- Set the byte of the array behind an address, ROM included: what a loader does, not what a bus write does. -/
def poke (s : State) (a : Word) (v : Byte) : State :=
  match region s.cfg a with
  | .romFixed o => s.setStore { s.store with rom := s.store.rom.write o v }
  | .romSwitch o => s.setStore { s.store with rom := s.store.rom.write (romIndex s o) v }
  | .vram o => s.setStore { s.store with vram := s.store.vram.write o v }
  | .eram o => s.setStore { s.store with eram := s.store.eram.write (eramIndex s o) v }
  | .wramFixed o => s.setStore (s.store.writeWram 0 o v)
  | .wramSwitch o => s.setStore (s.store.writeWram 1 o v)
  | .oam o => s.setStore { s.store with oam := s.store.oam.write o v }
  | .hram o => s.setStore { s.store with hram := s.store.hram.write o v }
  | .unmapped | .io _ | .ie => s

/-- Store bytes from an address on. -/
def pokeBytes (s : State) (a : Word) : List Byte → State
  | [] => s
  | v :: vs => pokeBytes (poke s a v) (a + 1#16) vs

/-- A machine that fetches in its next tick: with no ROM, a zero image of two banks is in place; a halted machine that
would idle is woken (log 3). -/
def runnable (s : State) : State :=
  let s1 := if s.store.romBanks = 0 then s.setStore { s.store with romBanks := 2 } else s
  if s1.idles then s1.setHalted false else s1

/-- The address the next tick's fetch reads: the vector if the tick dispatches, else `PC` (R500). -/
def nextFetchAddress (s : State) : Word :=
  if s.dispatches then s.cfg.intVector (lowestSet s.pendingEnabled) else s.regs.pc

/-- Store an instruction's bytes where the next tick fetches. Where `PC` is in the I/O file, at `IE` or in an unbacked
region, nothing can be stored there and `PC` becomes `RESET_PC` (log 3). -/
def placeAtFetch (bytes : List Byte) (s : State) : State :=
  let s1 := runnable s
  let a := nextFetchAddress s1
  if s1.backed a && s1.backed (a + 1#16) && s1.backed (a + 2#16) then pokeBytes s1 a bytes
  else pokeBytes (s1.setPc s1.cfg.resetPc) s1.cfg.resetPc bytes

end Sys2Proof.Machine
end

