-- ==== Sys2Proof/Machine/Step.lean ====
section
/-! DEFINITION. The step of the machine: one tick (60_exceptions.md R500). -/

namespace Sys2Proof.Machine

/-- One step is one machine tick (R500, R504). -/
def step (s : State) : Host.Outcome State Fault Refusal := tick s

/-- The word of an opcode-table row stored where the next step fetches its instruction (log 3, log 6). -/
def State.withFetchWord (s : State) (nbits w : Nat) : State := placeAtFetch (tableWordBytes nbits w) s

end Sys2Proof.Machine
end

