-- ==== Sys2Proof/Machine/HostOps.lean ====
section
/-! DEFINITION. The operations a host applies between ticks (70_reset_and_hazards.md R800 to R803, R830 to R842;
60_exceptions.md R531). -/

namespace Sys2Proof.Machine

/-! ## Reset and construction -/

/-- `Reset` of one SPU core: everything but `SRAM` (10_state.md R64). -/
def SpuCore.hostReset (c : Config) (k : SpuCore) : SpuCore := { SpuCore.resetFor c with sram := k.sram }

/-- The plain cells of the I/O file after `IO[0..0x7F] <- RESET_IO` (R800; 10_state.md R35, R62); no other cell is stored
(log 18). -/
def resetIoCells (c : Config) : Memory :=
  Cells.ofFn 0 0x80 fun o => if isPlainCell c o then c.resetIoByte o else 0#8

/-- `Reset()` (R800). `CFG`, the ROM image, `ERAM` and `SRAM` are kept (R802), and so is the model's count of free
values (log 16); all else is assigned. -/
def hostReset (s : State) : State where
  cfg := s.cfg
  regs := Regs.resetFor s.cfg
  ime := false
  halted := false
  eiPending := false
  ifReg := 0#5
  ieReg := 0#5
  bank := Bank.reset
  store := { Store.freshFor s.cfg with
    romBanks := s.store.romBanks, rom := s.store.rom, eram := s.store.eram, io := resetIoCells s.cfg }
  timer := Timer.reset
  ppu := Ppu.resetFor s.cfg
  spu := { cores := s.spu.cores.map (SpuCore.hostReset s.cfg), outbuf := [], phase := 0, latch := [] }
  events := []
  cycles := 0
  freeIndex := s.freeIndex

/-- `Construct(CFG)`: a fresh instance, or a refusal of an ill-formed configuration (R803, R831). -/
def construct (cfg : Config) : Option State :=
  if cfg.wellFormed then
    some (hostReset { State.reset with
      cfg := cfg
      spu := { State.reset.spu with cores := List.replicate cfg.nSpuCores (SpuCore.resetFor cfg) } })
  else none

/-! ## Running -/

/-- What a run answers: the machine and the sum of the cycle counts (R832). -/
abbrev RunResult := Host.Outcome (State × Nat) Fault Refusal

/-- Add the cycles of a tick that came before. -/
def RunResult.after (n : Nat) : RunResult → RunResult
  | .next (t, total) => .next (t, n + total)
  | .fault r => .fault r
  | .refused r => .refused r

/-- `n` ticks. -/
def runTicks : Nat → State → RunResult
  | 0, s => .next (s, 0)
  | n + 1, s =>
    match step s with
    | .next t => RunResult.after t.cycles (runTicks n t)
    | .fault r => .fault r
    | .refused r => .refused r

/-- Ticks until `total` cycles have been returned, `fuel` of them at most; the tick that crosses the total completes. -/
def runCycles : Nat → Nat → State → RunResult
  | 0, _, s => .next (s, 0)
  | fuel + 1, total, s =>
    if total = 0 then .next (s, 0)
    else
      match step s with
      | .next t => RunResult.after t.cycles (runCycles fuel (total - t.cycles) t)
      | .fault r => .fault r
      | .refused r => .refused r

/-- `Run(n)`: `n` ticks and the sum of their cycle counts; refused, whatever `n`, while no ROM is loaded (R832). -/
def run (n : Nat) (s : State) : RunResult :=
  if s.store.romBanks = 0 then .refused .noRomLoaded else runTicks n s

/-- "The host may instead request ticks until a cycle total is reached" (R832). No tick charges 0 cycles, so `total`
ticks are enough. -/
def runUntil (total : Nat) (s : State) : RunResult :=
  if s.store.romBanks = 0 then .refused .noRomLoaded else runCycles total total s

/-! ## Loading a ROM -/

/-- `ROM_VALID` of `CFG_REF`: accepts every image (00_scope.md R6; R834). -/
def romValidRef (_ : List Byte) : Bool := true

/-- The images `LoadRom` accepts, given `ROM_VALID` (R834; log 7). -/
def romAcceptable (valid : List Byte → Bool) (bytes : List Byte) : Bool :=
  decide (0x8000 ≤ bytes.length) && decide (bytes.length % Config.romBankSize = 0) &&
  decide (bytes.length ≤ 256 * Config.romBankSize) && valid bytes

/-- `LoadRom(bytes) -> bool` (R834). -/
def loadRom (valid : List Byte → Bool) (bytes : List Byte) (s : State) : Bool × State :=
  if romAcceptable valid bytes then
    (true, s.setStore { s.store with
      romBanks := bytes.length / Config.romBankSize
      rom := Cells.ofFn 0 bytes.length fun i => bytes.getD i 0#8 })
  else (false, s)

/-! ## Host lines, buffers, snapshot

The port operations of the SPU, which the host applies too (R841), are `spuPort` in Machine/Spu.lean. -/

/-- `RaiseSerial()` (60_exceptions.md R531). -/
def raiseSerial (s : State) : State := s.raise 3

/-- `RaiseInput()` (60_exceptions.md R531). -/
def raiseInput (s : State) : State := s.raise 4

/-- `ReadFrameBuffer()`: row by row, 144 rows of `FB_WIDTH` shades (R836). -/
def readFrameBuffer (s : State) : List (List (BitVec 2)) :=
  (List.range Config.visibleLines).map fun y =>
    (List.range s.cfg.fbWidth).map fun x => s.ppu.fb.read (y * s.cfg.fbWidth + x)

/-- `DrainAudio()`: the samples, and the machine with the buffer empty (R837). -/
def drainAudio (s : State) : List (BitVec 16) × State := (s.spu.outbuf, s.setSpu { s.spu with outbuf := [] })

/-- `DrainEvents()` (R842). -/
def drainEvents (s : State) : List Event × State := (s.events, { s with events := [] })

/-- What `Snapshot()` copies (R840). -/
structure HostSnapshot where
  regs : Regs
  ime : Bool
  halted : Bool
  ifReg : BitVec 5
  ieReg : BitVec 5
  bank : Bank
  mode : PpuMode
  dot : Nat
  ly : Byte
  timer : Timer
  irqFlags : List Bool
deriving DecidableEq, Repr

/-- `Snapshot()` (R840); `irqFlags` has the flag of every core. -/
def snapshot (s : State) : HostSnapshot where
  regs := s.regs
  ime := s.ime
  halted := s.halted
  ifReg := s.ifReg
  ieReg := s.ieReg
  bank := s.bank
  mode := s.ppu.mode
  dot := s.ppu.dot
  ly := s.ppu.ly
  timer := s.timer
  irqFlags := s.spu.cores.map SpuCore.irqFlag

/-! ## Saving -/

/-- A number as `k` bytes, low byte first (R838). -/
def leBytes : Nat → Nat → List Byte
  | 0, _ => []
  | k + 1, n => BitVec.ofNat 8 n :: leBytes k (n / 256)

/-- A one-bit field. -/
def bitByte (b : Bool) : Byte := if b then 1#8 else 0#8

/-- Part (a): byte `i` is `read(i)` (R838). -/
def memoryImage (s : State) : List Byte := (List.range 65536).map fun i => busRead s (BitVec.ofNat 16 i)

/-- Part (b1), 24 bytes (R838). -/
def registerRecord (s : State) : List Byte :=
  [s.regs.a, s.regs.f, s.regs.b, s.regs.c, s.regs.d, s.regs.e, s.regs.h, s.regs.l] ++
  leBytes 2 s.regs.sp.toNat ++ leBytes 2 s.regs.pc.toNat ++
  [bitByte s.ime, bitByte s.halted, bitByte s.eiPending] ++
  [s.bank.romBank, s.bank.ramBank.setWidth 8, bitByte s.bank.ramEnable] ++
  leBytes 2 s.timer.divSub ++ leBytes 2 s.timer.timaSub ++ [0#8, 0#8]

/-- Part (b2), 8 bytes (R838). -/
def ppuRecord (s : State) : List Byte :=
  [s.ppu.mode.code.setWidth 8] ++ leBytes 2 s.ppu.dot ++ [s.ppu.ly] ++ [0#8, 0#8, 0#8, 0#8]

/-- Part (c1), 16 bytes (R838). -/
def spuGlobals (k : SpuCore) : List Byte :=
  [bitByte k.reverbEnable, bitByte k.irqEnable, bitByte k.irqFlag, 0#8] ++
  leBytes 4 k.irqAddr ++ leBytes 4 k.xferAddr ++ [0#8, 0#8, 0#8, 0#8]

/-- A record of part (c2), 24 bytes (R838). -/
def voiceRecord (v : Voice) : List Byte :=
  leBytes 2 v.volume.toNat ++ leBytes 2 v.pitch.toNat ++ leBytes 2 v.attack.toNat ++ leBytes 2 v.decay.toNat ++
  leBytes 2 v.sustain.toNat ++ leBytes 2 v.release.toNat ++ leBytes 4 v.pos ++ leBytes 2 v.env ++
  [bitByte v.keyOn, bitByte v.keyOff] ++ [0#8, 0#8, 0#8, 0#8]

/-- Part (c3): the `SRAM_SAMPLES` samples in two's complement (R838). -/
def sampleImage (samples : Nat) (k : SpuCore) : List Byte :=
  (List.range samples).flatMap fun i => leBytes 2 (k.sram.read i).toNat

/-- The core the blob carries: core 0 (R838; log 8). -/
def blobCore (s : State) : SpuCore := s.spu.cores.headD (SpuCore.resetFor s.cfg)

/-- `SaveState() -> bytes` (R838). -/
def saveState (s : State) : List Byte :=
  memoryImage s ++ registerRecord s ++ ppuRecord s ++ spuGlobals (blobCore s) ++
  (blobCore s).voices.flatMap voiceRecord ++ sampleImage s.cfg.sramSamples (blobCore s)

/-- Offset of voice record `v` (R838). -/
def voiceOffset (v : Nat) : Nat := 65584 + 24 * v

/-- Offset of part (c3) (R838). -/
def sampleOffset (c : Config) : Nat := voiceOffset c.nVoices

/-- `BLOB_SIZE`, 590448 in `CFG_REF` (R838). -/
def blobSize (c : Config) : Nat := sampleOffset c + 2 * c.sramSamples

/-- Every field a blob carries fits its bytes in this configuration, and the machine has one core (R838; log 8). -/
def fitsBlob (c : Config) : Bool :=
  decide (c.divPeriod ≤ 65536) && decide (c.timaSubRange ≤ 65536) && decide (c.lineCycles ≤ 65536) &&
  decide (c.sramSamples * c.pitchOne ≤ 4294967296) && decide (c.envMax ≤ 65535) && decide (c.nSpuCores = 1)

/-! ## Loading -/

/-- A byte of the blob. -/
def blobByte (b : List Byte) (off : Nat) : Byte := b.getD off 0#8

/-- A `k`-byte field of the blob, low byte first. -/
def blobNat (b : List Byte) (off : Nat) : Nat → Nat
  | 0 => 0
  | k + 1 => (blobByte b off).toNat + 256 * blobNat b (off + 1) k

/-- A one-bit field as a truth value. -/
def blobBit (b : List Byte) (off : Nat) : Bool := decide (blobByte b off = 1#8)

/-- Whether a one-bit field holds 0 or 1. -/
def blobBitOk (b : List Byte) (off : Nat) : Bool := decide ((blobByte b off).toNat ≤ 1)

/-- The mode a blob byte names, 0 to 3 (R838). -/
def PpuMode.ofCode : Nat → PpuMode
  | 0 => .hblank
  | 1 => .vblank
  | 2 => .oamScan
  | _ => .pixelTransfer

/-- The checks of the register record (R839); its 256 and 1024 are read as the periods of the configuration (log 18). -/
def registerRecordOk (c : Config) (b : List Byte) : Bool :=
  decide (blobByte b 65537 &&& 0x0F#8 = 0#8) &&
  [65548, 65549, 65550, 65553].all (blobBitOk b) &&
  decide ((blobByte b 65552).toNat ≤ 15) &&
  decide (blobNat b 65554 2 < c.divPeriod) && decide (blobNat b 65556 2 < c.timaSubRange)

/-- The checks of the PPU record (R839). -/
def ppuRecordOk (c : Config) (b : List Byte) : Bool :=
  let m := (blobByte b 65560).toNat
  let ly := (blobByte b 65563).toNat
  decide (m ≤ 3) && decide (blobNat b 65561 2 < (PpuMode.ofCode m).budget c) && decide (ly ≤ 153) &&
  !(decide (143 < ly) && !(decide (m = 1) || decide (m = 0))) && !(decide (ly < 144) && decide (m = 1))

/-- The checks of the SPU globals (R839). -/
def spuGlobalsOk (c : Config) (b : List Byte) : Bool :=
  [65568, 65569, 65570].all (blobBitOk b) &&
  decide (blobNat b 65572 4 < c.sramSamples) && decide (blobNat b 65576 4 < c.sramSamples)

/-- The checks of one voice record (R839); its 4096 and 0x7FFF are read as `PITCH_ONE` and `ENV_MAX` (log 18). -/
def voiceRecordOk (c : Config) (b : List Byte) (v : Nat) : Bool :=
  decide (blobNat b (voiceOffset v + 12) 4 < c.sramSamples * c.pitchOne) &&
  decide (blobNat b (voiceOffset v + 16) 2 ≤ c.envMax) &&
  blobBitOk b (voiceOffset v + 18) && blobBitOk b (voiceOffset v + 19)

/-- The blob belongs to the loaded cartridge: its image of the two ROM windows is what the ROM shows with the blob's
`rom_bank` (R839). -/
def romImageOk (b : List Byte) (s : State) : Bool :=
  let s' := s.setBank { s.bank with romBank := blobByte b 65551 }
  [s.cfg.memoryMap.romFixed, s.cfg.memoryMap.romSwitch].all fun r =>
    (List.range r.size).all fun i =>
      decide (blobByte b (r.first + i) = busRead s' (BitVec.ofNat 16 (r.first + i)))

/-- Whether `LoadState` accepts a blob (R839). -/
def blobOk (b : List Byte) (s : State) : Bool :=
  decide (b.length = blobSize s.cfg) && registerRecordOk s.cfg b && ppuRecordOk s.cfg b && spuGlobalsOk s.cfg b &&
  (List.range s.cfg.nVoices).all (voiceRecordOk s.cfg b) && romImageOk b s

/-- The byte of the image at an offset of the I/O file. -/
def blobIo (c : Config) (b : List Byte) (o : Nat) : Byte := blobByte b (c.memoryMap.io.first + o)

/-- The image of a region as the array behind it. -/
def blobArray (b : List Byte) (r : Range) : Memory := Cells.ofFn 0 r.size fun i => blobByte b (r.first + i)

/-- The register file of a blob (R838). -/
def blobRegs (b : List Byte) : Regs where
  a := blobByte b 65536
  f := blobByte b 65537
  b := blobByte b 65538
  c := blobByte b 65539
  d := blobByte b 65540
  e := blobByte b 65541
  h := blobByte b 65542
  l := blobByte b 65543
  sp := BitVec.ofNat 16 (blobNat b 65544 2)
  pc := BitVec.ofNat 16 (blobNat b 65546 2)

/-- The bank state of a blob (R838). -/
def blobBank (b : List Byte) : Bank where
  romBank := blobByte b 65551
  ramBank := (blobByte b 65552).setWidth 4
  ramEnable := blobBit b 65553

/-- The timer of a blob: the prescalers from the record, the registers from the image (R839). -/
def blobTimer (c : Config) (b : List Byte) : Timer where
  div := blobIo c b 0x04
  divSub := blobNat b 65554 2
  tima := blobIo c b 0x05
  timaSub := blobNat b 65556 2
  tma := blobIo c b 0x06
  tac := (blobIo c b 0x07).setWidth 3

/-- The PPU of a blob: mode, dot and `LY` from the record, the other registers from the image; `FB` is all 0 (R839). -/
def blobPpu (c : Config) (b : List Byte) : Ppu where
  mode := PpuMode.ofCode (blobByte b 65560).toNat
  dot := blobNat b 65561 2
  ly := blobByte b 65563
  lcdc := blobIo c b 0x40
  stat := (blobIo c b 0x41 >>> 3).setWidth 4
  scy := blobIo c b 0x42
  scx := blobIo c b 0x43
  lyc := blobIo c b 0x45
  bgp := blobIo c b 0x47
  obp0 := blobIo c b 0x48
  obp1 := blobIo c b 0x49
  wy := blobIo c b 0x4A
  wx := blobIo c b 0x4B
  fb := []

/-- The arrays of a blob; the selected `ERAM` bank is filled, the others are kept (R839), and
so are the banks of `WRAM` no window shows (log 15). -/
def blobStore (b : List Byte) (s : State) : Store :=
  let m := s.cfg.memoryMap
  { s.store with
    vram := blobArray b m.vram
    eram :=
      if s.cfg.ramBanks = 0 then s.store.eram
      else Cells.fill s.store.eram (((blobBank b).ramBank.toNat % s.cfg.ramBanks) * Config.ramBankSize)
        m.eram.size fun i => blobByte b (m.eram.first + i)
    wram := blobArray b m.wramFixed :: blobArray b m.wramSwitch :: s.store.wram.drop 2
    oam := blobArray b m.oam
    io := Cells.ofFn 0 0x80 fun i => if isPlainCell s.cfg i then blobIo s.cfg b i else 0#8
    hram := blobArray b m.hram }

/-- A voice of a blob (R838). -/
def blobVoice (b : List Byte) (v : Nat) : Voice where
  volume := BitVec.ofNat 16 (blobNat b (voiceOffset v) 2)
  pitch := BitVec.ofNat 16 (blobNat b (voiceOffset v + 2) 2)
  attack := BitVec.ofNat 16 (blobNat b (voiceOffset v + 4) 2)
  decay := BitVec.ofNat 16 (blobNat b (voiceOffset v + 6) 2)
  sustain := BitVec.ofNat 16 (blobNat b (voiceOffset v + 8) 2)
  release := BitVec.ofNat 16 (blobNat b (voiceOffset v + 10) 2)
  pos := blobNat b (voiceOffset v + 12) 4
  env := blobNat b (voiceOffset v + 16) 2
  keyOn := blobBit b (voiceOffset v + 18)
  keyOff := blobBit b (voiceOffset v + 19)

/-- The SPU core of a blob; the reverb line takes its reset value (R839). -/
def blobSpuCore (c : Config) (b : List Byte) : SpuCore where
  reverbEnable := blobBit b 65568
  irqEnable := blobBit b 65569
  irqFlag := blobBit b 65570
  irqAddr := blobNat b 65572 4
  xferAddr := blobNat b 65576 4
  voices := (List.range c.nVoices).map (blobVoice b)
  sram := Cells.ofFn 0 c.sramSamples fun i => BitVec.ofNat 16 (blobNat b (sampleOffset c + 2 * i) 2)
  rvbL := []
  rvbR := []
  rvbIdx := 0

/-- The machine after a successful load (R839). `ei_pending` exists only where `EI_DELAY = 1` (10_state.md R32;
log 9). The bytes at the addresses of `SPU_IO_MAP` are ignored, as the records carry the SPU (log 7). -/
def loadedState (b : List Byte) (s : State) : State where
  cfg := s.cfg
  regs := blobRegs b
  ime := blobBit b 65548
  halted := blobBit b 65549
  eiPending := s.cfg.eiDelay && blobBit b 65550
  ifReg := (blobIo s.cfg b 0x0F).setWidth 5
  ieReg := (blobByte b s.cfg.memoryMap.ie).setWidth 5
  bank := blobBank b
  store := blobStore b s
  timer := blobTimer s.cfg b
  ppu := blobPpu s.cfg b
  spu := { cores := blobSpuCore s.cfg b :: s.spu.cores.tail, outbuf := [], phase := 0, latch := [] }
  events := []
  cycles := 0
  freeIndex := s.freeIndex + 1

/-- `LoadState(bytes) -> bool`: all or nothing (R839). -/
def loadState (b : List Byte) (s : State) : Bool × State :=
  if blobOk b s then (true, loadedState b s) else (false, s)

end Sys2Proof.Machine
end

