-- ==== Sys2Proof/Safety.lean ====
section
/-! DEFINITION. The terms claims use: the legal states of the machine (`State.Inv`), the addresses a store can change
(`reaches`), and what an instruction leaves alone (`Frame`). -/

namespace Sys2Proof.Machine

/-! ## Legal states -/

/-- "`F[3:0]` always zero" (10_state.md R24). -/
def Regs.Legal (g : Regs) : Prop := g.f &&& 0x0F#8 = 0#8

/-- Every array canonical and inside its size (10_state.md R34); no image, or 2 to 256 ROM banks (00_scope.md R6); the
I/O array holds plain cells only (10_state.md R35). -/
structure Store.Legal (st : Store) (cfg : Config) : Prop where
  banks : st.romBanks = 0 ∨ (2 ≤ st.romBanks ∧ st.romBanks ≤ 256)
  rom : Cells.within st.rom (st.romBanks * Config.romBankSize)
  vram : Cells.within st.vram 0x2000
  eram : Cells.within st.eram (cfg.ramBanks * Config.ramBankSize)
  wramCount : st.wram.length = cfg.wramBanks
  wram : ∀ m ∈ st.wram, Cells.within m 0x1000
  oam : Cells.within st.oam 0xA0
  io : Cells.within st.io 0x80
  ioPlain : ∀ c ∈ st.io, isPlainCell cfg c.1 = true
  hram : Cells.within st.hram 0x7F

/-- The prescalers stay below their periods (10_state.md R36). -/
structure Timer.Legal (t : Timer) (cfg : Config) : Prop where
  divSub : t.divSub < cfg.divPeriod
  timaSub : t.timaSub < cfg.timaSubRange

/-- `LY` is 0 to 143 outside VBLANK and 144 to 153 in it (61_ppu.md R605). -/
def PpuMode.lineLegal (m : PpuMode) (ly : Nat) : Prop :=
  match m with
  | .vblank => 144 ≤ ly ∧ ly ≤ 153
  | .oamScan | .pixelTransfer | .hblank => ly ≤ 143

/-- The mode, its counter and the line agree (61_ppu.md R604, R605); a disabled pipeline is in HBLANK (R640); `FB` has
144 rows of `FB_WIDTH` (10_state.md R39). -/
structure Ppu.Legal (p : Ppu) (cfg : Config) : Prop where
  dot : p.dot < p.mode.budget cfg
  line : p.lcdc.getLsbD 7 = true → p.mode.lineLegal p.ly.toNat
  lineBound : p.ly.toNat ≤ 153
  disabled : p.lcdc.getLsbD 7 = false → p.mode = .hblank
  fb : Cells.within p.fb (Config.visibleLines * cfg.fbWidth)

/-- `env` and `pos` are bounded (10_state.md R41); the key-off latch is set only on a keyed voice (62_spu.md R720). -/
structure Voice.Legal (v : Voice) (cfg : Config) : Prop where
  env : v.env ≤ cfg.envMax
  pos : v.pos < cfg.sramSamples * cfg.pitchOne
  latch : v.keyOff = true → v.keyOn = true

/-- `N_VOICES` voices, arrays canonical and inside their sizes, sample indices in the sample RAM (10_state.md R40 to
R43). -/
structure SpuCore.Legal (k : SpuCore) (cfg : Config) : Prop where
  count : k.voices.length = cfg.nVoices
  voices : ∀ v ∈ k.voices, v.Legal cfg
  irqAddr : k.irqAddr < cfg.sramSamples
  xferAddr : k.xferAddr < cfg.sramSamples
  sram : Cells.within k.sram cfg.sramSamples
  rvbL : Cells.within k.rvbL cfg.reverbDelay
  rvbR : Cells.within k.rvbR cfg.reverbDelay
  rvbIdx : k.rvbIdx < cfg.reverbDelay

/-- One core per configured core; the step counter is below its period (10_state.md R43; 62_spu.md R725); the bytes
kept for assembly are those of the I/O file (log 7). -/
structure Spu.Legal (u : Spu) (cfg : Config) : Prop where
  count : u.cores.length = cfg.nSpuCores
  cores : ∀ k ∈ u.cores, k.Legal cfg
  phase : u.phase < cfg.spuStepPeriod
  latch : Cells.within u.latch 0x80

/-- The states a machine can be in between ticks. `LoadState` alone can leave them (log 11). -/
structure State.Inv (s : State) : Prop where
  cfg : s.cfg.wellFormed = true
  regs : s.regs.Legal
  store : s.store.Legal s.cfg
  timer : s.timer.Legal s.cfg
  ppu : s.ppu.Legal s.cfg
  spu : s.spu.Legal s.cfg
  eiLatch : s.eiPending = true → s.cfg.eiDelay = true

/-! ## What a store can change -/

/-- Whether an address is in `SPU_IO_MAP`, so that a bus write there applies a port operation (20_memory.md R102). -/
def spuMapped (cfg : Config) (a : Word) : Bool :=
  match region cfg a with
  | .io o => decide (ioReg cfg o = .spu)
  | _ => false

/-- Whether a write to the register `r` of the I/O file can change what a read of another place answers: a bank
register its window (20_memory.md R74, R77), `DMA` the sprite table (R99), `LCDC` the mode and `LY` (R94; 61_ppu.md R640,
R641), `LYC` the comparison bit of `STAT` (R95), a mapped SPU register the others (log 16). -/
def IoReg.reaches (cfg : Config) (r : IoReg) (place : Region) : Bool :=
  match r, place with
  | .romb, .romSwitch _ => true
  | .ramb, .eram _ => true
  | .dma, .oam _ => true
  | .lcdc, .io k => decide (ioReg cfg k = .stat) || decide (ioReg cfg k = .ly)
  | .lyc, .io k => decide (ioReg cfg k = .stat)
  | .spu, .io k => decide (ioReg cfg k = .spu)
  | _, _ => false

/-- Whether a bus write to `a` can change what a bus read of `b` answers: the byte itself, under both its names where it
has two (20_memory.md R80), and the reads a register's side effect reaches. -/
def reaches (cfg : Config) (a b : Word) : Bool :=
  decide (unecho cfg.memoryMap a.toNat = unecho cfg.memoryMap b.toNat) ||
  match region cfg a with
  | .io o => (ioReg cfg o).reaches cfg (region cfg b)
  | _ => false

/-- Every byte that no store to an address of `stored` can change reads as before. -/
def MemoryKept (s t : State) (stored : List Word) : Prop :=
  ∀ b : Word, (∀ a ∈ stored, reaches s.cfg a b = false) → busRead t b = busRead s b

/-! ## What an instruction leaves alone -/

/-- The byte registers of a pair; `SP` is none of them. -/
def pairRegs : Pair → List Reg8
  | .bc => [.b, .c]
  | .de => [.d, .e]
  | .hl => [.h, .l]
  | .sp => []

/-- The byte registers of a stack pair; `F` has no index (30_encoding.md R146). -/
def stackPairRegs : StackPair → List Reg8
  | .bc => [.b, .c]
  | .de => [.d, .e]
  | .hl => [.h, .l]
  | .af => [.a]

/-- The two addresses a push stores to, in order (40_loads.md R240). -/
def pushAddresses (s : State) : List Word := [s.regs.sp - 1#16, s.regs.sp - 2#16]

/-- The frame of an instruction that may write the byte registers `dst`, `SP` if `sp`, the four flags if `flags`, and
stores to the addresses `stored`, in that order. `PC` and the cycle count are not framed. The state no bus access
shows (the latches, `ROM`, the prescaler, `FB`, the events) is kept, and so is the synthesizer unless a stored address is
mapped to it; with no store, all of it is. -/
structure Frame (s t : State) (dst : List Reg8) (sp flags : Bool) (stored : List Word) : Prop where
  regs : ∀ q, q ∉ dst → t.reg8 q = s.reg8 q
  sp : sp = false → t.regs.sp = s.regs.sp
  flags : flags = false → t.regs.f = s.regs.f
  lowF : t.regs.f &&& 0x0F#8 = s.regs.f &&& 0x0F#8
  memory : MemoryKept s t stored
  cfg : t.cfg = s.cfg
  ime : t.ime = s.ime
  halted : t.halted = s.halted
  eiPending : t.eiPending = s.eiPending
  rom : t.store.rom = s.store.rom ∧ t.store.romBanks = s.store.romBanks
  timaSub : t.timer.timaSub = s.timer.timaSub
  fb : t.ppu.fb = s.ppu.fb
  spu : (∀ a ∈ stored, spuMapped s.cfg a = false) → t.spu = s.spu ∧ t.freeIndex = s.freeIndex
  events : t.events = s.events
  storeless : stored = [] →
    t.ifReg = s.ifReg ∧ t.ieReg = s.ieReg ∧ t.bank = s.bank ∧ t.store = s.store ∧ t.timer = s.timer ∧ t.ppu = s.ppu

/-! ## Encodings -/

/-- An opcode byte by its fields: `base` with `y` in bits 5 to 3 and `z` in bits 2 to 0 (30_encoding.md R141). -/
def opcode (base y z : Nat) : Byte := BitVec.ofNat 8 (base + 8 * y + z)

/-- The bytes `op`, `b1`, `b2`, as many as `len`, are the encoding of `i` in `CFG_REF`, and nothing after them
matters. -/
def Encodes (op : Byte) (len : Nat) (b1 b2 : Byte) (i : Instr) : Prop :=
  decodeBytes op b1 b2 = i ∧ opcodeLength op = len ∧ encode i = [op, b1, b2].take len

/-- The encodings of the three forms of an accumulator operation: `0b10yyyzzz`, `0b10yyy110`, `0b11yyy110 d8`
(41_alu8.md R276). -/
def AluEncoded (op : AluOp) : Prop :=
  ∀ b1 b2 : Byte,
    (∀ z : Reg8, Encodes (opcode 0x80 op.index z.index) 1 b1 b2 (Instr.aluReg op z)) ∧
    Encodes (opcode 0x86 op.index 0) 1 b1 b2 (Instr.aluMem op) ∧
    Encodes (opcode 0xC6 op.index 0) 2 b1 b2 (Instr.aluImm op b1)

/-- The three operand forms of an accumulator operation: the instruction, the operand's value, the cycles
(41_alu8.md R276). -/
def ForAluForms (op : AluOp) (s : State) (P : Instr → Byte → Nat → Prop) : Prop :=
  (∀ r : Reg8, P (Instr.aluReg op r) (s.reg8 r) 4) ∧ P (Instr.aluMem op) (busRead s s.hl) 8 ∧
  ∀ v : Byte, P (Instr.aluImm op v) v 8

/-- The result and the outgoing bit of a CB-page rotate or shift, as arithmetic on the operand `v` and the old carry
(43_rotates_bits.md R330 to R337). -/
def rotArith (op : RotOp) (v cin : Nat) : Nat × Nat :=
  match op with
  | .rlc => (v * 2 % 256 + v / 128, v / 128)
  | .rrc => (v / 2 + 128 * (v % 2), v % 2)
  | .rl => (v * 2 % 256 + cin, v / 128)
  | .rr => (v / 2 + 128 * cin, v % 2)
  | .sla => (v * 2 % 256, v / 128)
  | .sra => (v / 2 + v / 128 * 128, v % 2)
  | .swap => (v % 16 * 16 + v / 16, 0)
  | .srl => (v / 2, v % 2)

end Sys2Proof.Machine
end

