-- ==== Sys2Proof/Certificates/Slice0/Obligations.lean ====
section
/-! DEFINITION. The statements for the provers. Each docstring names the rules of the spec a statement formalises.
An equation `exec i s = .next …` is the result of `i`, its frame and its completion at once: `s` is any state, `PC` is
already past the instruction's bytes, and every part of the state the right side does not name is unchanged.
A parameter of the configuration stands as the field it is; where a value of `CFG_REF` matters, a clause gives it or a
premise asks for the map or the table of `CFG_REF`. -/

open Sys2Proof Sys2Proof.Machine

/-! ## Decoding and encoding -/

/-- Words written out from the encodings of 30_encoding.md R152 and R154, one or more per family. -/
def Obligations.DecodeWords : Prop :=
  decode [0x00#8] = .ok (.nop, []) ∧
  decode [0x41#8] = .ok (.ld_B_C, []) ∧
  decode [0x3E#8, 0x42#8] = .ok (.ld_A_d8 0x42#8, []) ∧
  decode [0x21#8, 0x34#8, 0x12#8] = .ok (.ld_HL_d16 0x1234#16, []) ∧
  decode [0x22#8] = .ok (.ld_atHLinc_A, []) ∧
  decode [0xF5#8] = .ok (.push_AF, []) ∧
  decode [0x96#8] = .ok (.sub_atHL, []) ∧
  decode [0xFE#8, 0x40#8] = .ok (.cp_d8 0x40#8, []) ∧
  decode [0x39#8] = .ok (.add_HL_SP, []) ∧
  decode [0x1F#8] = .ok (.rra, []) ∧
  decode [0xCB#8, 0x7F#8] = .ok (.bit_7_A, []) ∧
  decode [0xCB#8, 0xC6#8] = .ok (.set_0_atHL, []) ∧
  decode [0x20#8, 0xFB#8] = .ok (.jr_NZ_e8 0xFB#8, []) ∧
  decode [0xCD#8, 0x34#8, 0x12#8, 0x00#8] = .ok (.call_a16 0x1234#16, [0x00#8]) ∧
  decode [0xEF#8] = .ok (.rst_28, []) ∧
  decode [0x76#8] = .ok (.halt, []) ∧
  decode [0xD3#8, 0x76#8] = .ok (.unknown 0xD3#8, [0x76#8])

/-- Decoding the encoding of a well-formed instruction gives it back, whatever bytes follow, with every operand at
every value (30_encoding.md R140 to R155). -/
def Obligations.DecodeInvertsEncode : Prop :=
  ∀ (i : Instr) (rest : List Byte), i.wellFormed = true → decode (encode i ++ rest) = .ok (i, rest)

/-- Each string of bytes has one meaning: what decoding reads is well formed, and encoding it gives the bytes back
(30_encoding.md R142, R152, R154, R155). -/
def Obligations.EncodeInvertsDecode : Prop :=
  ∀ (bytes : List Byte) (i : Instr) (rest : List Byte),
    decode bytes = .ok (i, rest) → i.wellFormed = true ∧ encode i ++ rest = bytes

/-- Every string of three bytes starts with an instruction, of 1, 2 or 3 bytes by its first byte alone; a first byte
0xCB makes it 2; a first byte the table leaves out makes it 1 (30_encoding.md R140, R155). A configuration selects the
instructions by its own table: a first byte the table lacks is an unknown opcode of one byte (R156); the table of
`CFG_REF` selects what the decoder reads. -/
def Obligations.DecodeTotal : Prop :=
  (∀ (op b1 b2 : Byte) (rest : List Byte),
    decode (op :: b1 :: b2 :: rest) =
      .ok (decodeBytes op b1 b2, (op :: b1 :: b2 :: rest).drop (opcodeLength op)) ∧
    1 ≤ opcodeLength op ∧ opcodeLength op ≤ 3 ∧ opcodeLength 0xCB#8 = 2 ∧
    (op ∈ unknownOpcodes ↔ decodeBytes op b1 b2 = .unknown op) ∧ (op ∈ unknownOpcodes → opcodeLength op = 1)) ∧
  ∀ (t : InstrTable) (op q b1 b2 : Byte),
    (t.row op = none → t.instr op b1 b2 = .unknown op ∧ t.length op = 1) ∧
    (t.row op = some q → q ≠ 0xCB#8 → t.instr op b1 b2 = decodeBytes q b1 b2 ∧ t.length op = opcodeLength q) ∧
    (t.row op = some 0xCB#8 → t.instr op b1 b2 = decodeBytes 0xCB#8 (t.cbRow b1) b2 ∧ t.length op = 2) ∧
    InstrTable.ref.instr op b1 b2 = decodeBytes op b1 b2 ∧ InstrTable.ref.length op = opcodeLength op

/-! ## The tick -/

/-- A step that neither idles nor dispatches runs the instruction its fetch decodes: `PC` moves past the instruction's
bytes, the cycle count starts at 0, then the latch of `EI` and the peripherals follow (60_exceptions.md R500, R501;
10_state.md R27). In the second clause the instruction is what the decoder of `CFG_REF` reads; in the first it is what
the configuration's own table selects (00_scope.md R5). -/
def Obligations.StepRunsDecodedInstruction : Prop :=
  (∀ s : State, s.store.romBanks ≠ 0 → s.halted = false → s.dispatches = false →
    ∃ t, exec (s.cfg.instrTable.instr (busRead s s.regs.pc) (busRead s (s.regs.pc + 1#16))
          (busRead s (s.regs.pc + 2#16)))
        ((s.setCycles 0).setPc
          (s.regs.pc + BitVec.ofNat 16 (s.cfg.instrTable.length (busRead s s.regs.pc)))) = .next t ∧
      step s = .next (advancePeripherals (armLatch s.eiPending t))) ∧
  ∀ (s : State) (i : Instr) (rest : List Byte),
    s.cfg.instrTable = InstrTable.ref → s.store.romBanks ≠ 0 → s.halted = false → s.dispatches = false →
    decode [busRead s s.regs.pc, busRead s (s.regs.pc + 1#16), busRead s (s.regs.pc + 2#16)] = .ok (i, rest) →
    ∃ t, exec i ((s.setCycles 0).setPc (s.regs.pc + BitVec.ofNat 16 (3 - rest.length))) = .next t ∧
      step s = .next (advancePeripherals (armLatch s.eiPending t))

/-- With the latch set and interrupt `n` the lowest-numbered bit both pending and enabled, the step clears that bit
and the latch, pushes `PC`, goes to the interrupt's vector with the cycles of a dispatch charged, and runs the handler's
first instruction in the same tick; a halt is left (60_exceptions.md R500, R511, R513). In `CFG_REF` the vector is
`0x0040 + 8 * n` and the cycles are 20 (R510; 00_scope.md R6). -/
def Obligations.DispatchPrecedesFetch : Prop :=
  (∀ (s : State) (n : Nat),
    s.store.romBanks ≠ 0 → s.ime = true → n < 5 → (s.ifReg &&& s.ieReg).getLsbD n = true →
    (∀ m, m < n → (s.ifReg &&& s.ieReg).getLsbD m = false) →
    step s = executePhase
      (((push16 s.regs.pc
          { s with cycles := 0, halted := false, ime := false, ifReg := s.ifReg &&& ~~~(1#5 <<< n) }).setPc
        (s.cfg.intVector n)).setCycles s.cfg.intDispatchCycles)) ∧
  (∀ n, n < 5 → Config.ref.intVector n = 0x0040#16 + BitVec.ofNat 16 (8 * n)) ∧ Config.ref.intDispatchCycles = 20

/-- A halted machine with no pending bit fetches nothing: the tick charges the idle cycles, 4 in `CFG_REF`, and advances
the peripherals. A pending bit ends the halt whatever `IE` and the latch say; with the latch clear the next instruction
runs and the pending bit stays set (60_exceptions.md R500, R512; 45_system.md R391). -/
def Obligations.HaltedTicks : Prop :=
  (∀ s : State, s.store.romBanks ≠ 0 → s.halted = true → s.ifReg = 0#5 →
    step s = .next (advancePeripherals { s with cycles := s.cfg.haltIdleCycles })) ∧
  (∀ s : State, s.halted = true → s.ifReg ≠ 0#5 → s.cfg.haltWakeMasked = false →
    step s = step { s with halted := false }) ∧
  (∀ s : State, s.halted = true → s.ifReg &&& s.ieReg = 0#5 → s.cfg.haltWakeMasked = true →
    s.store.romBanks ≠ 0 → step s = .next (advancePeripherals { s with cycles := s.cfg.haltIdleCycles })) ∧
  (∀ s : State, s.halted = true → s.ifReg &&& s.ieReg ≠ 0#5 → step s = step { s with halted := false }) ∧
  Config.ref.haltIdleCycles = 4 ∧ Config.ref.haltWakeMasked = false

/-- Every instruction completes in every state, 4 to 24 cycles on, an unknown opcode by the cycles the configuration
gives it, 4 in `CFG_REF`: "no instruction stops it for good and no fault ends it" (70_reset_and_hazards.md R833, R821;
60_exceptions.md R551). -/
def Obligations.EveryInstructionCompletes : Prop :=
  (∀ (i : Instr) (s : State), ∃ t, exec i s = .next t ∧
    ((∃ op, i = .unknown op ∧ t.cycles = s.cycles + s.cfg.unknownOpCycles) ∨
      ∃ k, 1 ≤ k ∧ k ≤ 6 ∧ t.cycles = s.cycles + 4 * k)) ∧
  Config.ref.unknownOpCycles = 4

/-- `Run` is "Refused when no ROM is loaded" (70_reset_and_hazards.md R832), so is a step, and only then; with a ROM
loaded no step faults and none stops the machine (60_exceptions.md R504; 70_reset_and_hazards.md R833). `Run(n)` applies
`n` ticks and sums their cycle counts; a run to a cycle total is the shortest run of ticks that reaches it, so that the
tick that crosses it completes (R832). -/
def Obligations.EveryStepCompletes : Prop :=
  (∀ s : State,
    (step s = .refused .noRomLoaded ↔ s.store.romBanks = 0) ∧ (s.store.romBanks ≠ 0 → ∃ t, step s = .next t)) ∧
  (∀ (s : State) (n : Nat),
    (run n s = .refused .noRomLoaded ↔ s.store.romBanks = 0) ∧
    (runUntil n s = .refused .noRomLoaded ↔ s.store.romBanks = 0)) ∧
  (∀ s : State, s.store.romBanks ≠ 0 → run 0 s = .next (s, 0) ∧
    ∀ n : Nat, ∃ t u k, step s = .next t ∧ run n t = .next (u, k) ∧ run (n + 1) s = .next (u, t.cycles + k)) ∧
  ∀ (s : State) (total : Nat), s.cfg.wellFormed = true → s.store.romBanks ≠ 0 →
    ∃ n u k, runUntil total s = .next (u, k) ∧ run n s = .next (u, k) ∧ total ≤ k ∧
      ∀ m v j, m < n → run m s = .next (v, j) → j < total

/-- The tick charges the cycles of 70_reset_and_hazards.md R821: a multiple of 4, from 4 to 24, and 20 more in a tick
that dispatches. The premises are the cycle parameters of `CFG_REF` (00_scope.md R6). -/
def Obligations.StepCycleCount : Prop :=
  ∀ s t : State, s.cfg.haltIdleCycles = 4 → s.cfg.unknownOpCycles = 4 → s.cfg.intDispatchCycles = 20 →
    step s = .next t →
    4 ∣ t.cycles ∧ (if s.dispatches then 24 else 4) ≤ t.cycles ∧ t.cycles ≤ if s.dispatches then 44 else 24

/-- Phases 4 and 5 of the tick (60_exceptions.md R500, R502, R503): the timer and then the pixel pipeline move once for
each cycle the tick has charged, in turn; then the synthesizer steps, once every `SPU_STEP_PERIOD` ticks and in `CFG_REF`
in every tick. No component's part of them touches another's: each moves as if the others stood still, and the
pending bits are those that any of them raises. The two phases leave the CPU, the bus and the event queue alone and clear no pending bit: "Neither uses
the bus" (R502), "every source is an event, not a level" (R514). The count of free values is the model's own (log 16). -/
def Obligations.PeripheralsKeepCpu : Prop :=
  (∀ s : State, advancePeripherals s =
    { spuPhase ((fun u => ppuCycle (timerCycle u))^[s.cycles] s) with freeIndex := s.freeIndex + 1 }) ∧
  (∀ s : State,
    (s.spu.phase + 1 = s.cfg.spuStepPeriod → spuPhase s = spuStep { s with spu := { s.spu with phase := 0 } }) ∧
    (s.spu.phase + 1 ≠ s.cfg.spuStepPeriod →
      spuPhase s = { s with spu := { s.spu with phase := s.spu.phase + 1 } })) ∧
  Config.ref.spuStepPeriod = 1 ∧
  (∀ s : State,
    timerCycle s = { s with timer := (timerCycle s).timer, ifReg := (timerCycle s).ifReg } ∧
    ppuCycle s = { s with ppu := (ppuCycle s).ppu, ifReg := (ppuCycle s).ifReg } ∧
    spuPhase s = { s with spu := (spuPhase s).spu, ifReg := (spuPhase s).ifReg }) ∧
  (∀ s : State,
    (advancePeripherals s).timer = (timerCycle^[s.cycles] s).timer ∧
    (advancePeripherals s).ppu = (ppuCycle^[s.cycles] s).ppu ∧
    (advancePeripherals s).spu = (spuPhase s).spu ∧
    (advancePeripherals s).ifReg =
      (timerCycle^[s.cycles] s).ifReg ||| (ppuCycle^[s.cycles] s).ifReg ||| (spuPhase s).ifReg) ∧
  ∀ s : State,
    (advancePeripherals s).cfg = s.cfg ∧ (advancePeripherals s).regs = s.regs ∧
    (advancePeripherals s).ime = s.ime ∧ (advancePeripherals s).halted = s.halted ∧
    (advancePeripherals s).eiPending = s.eiPending ∧ (advancePeripherals s).ieReg = s.ieReg ∧
    (advancePeripherals s).bank = s.bank ∧ (advancePeripherals s).store = s.store ∧
    (advancePeripherals s).events = s.events ∧ (advancePeripherals s).cycles = s.cycles ∧
    ∀ n, s.ifReg.getLsbD n = true → (advancePeripherals s).ifReg.getLsbD n = true

/-! ## Invariants and reset -/

/-- The machine right after reset is legal. -/
def Obligations.InvAtReset : Prop := State.reset.Inv

/-- Every step from a legal state leaves a legal state: the low nibble of `F` stays zero, every array stays canonical
and inside its size, the prescalers, the pixel pipeline and the synthesizer stay in their ranges (10_state.md R24, R36,
R41, R43; 61_ppu.md R604, R605, R640). -/
def Obligations.StepKeepsInv : Prop :=
  ∀ s t : State, s.Inv → step s = .next t → t.Inv

/-- The machine of `CFG_REF` right after construction and reset, component by component: the values of 10_state.md R60 to
R65, the zero-filled arrays and the missing ROM of 70_reset_and_hazards.md R803. The bytes kept for the assembly of
arguments are the model's own (log 7). -/
def Obligations.ResetValues : Prop :=
  State.reset.regs =
    { a := 0#8, f := 0#8, b := 0#8, c := 0#8, d := 0#8, e := 0#8, h := 0#8, l := 0#8, sp := 0xFFFE#16,
      pc := 0x0100#16 } ∧
  State.reset.ime = false ∧ State.reset.halted = false ∧ State.reset.eiPending = false ∧
  State.reset.ifReg = 0#5 ∧ State.reset.ieReg = 0#5 ∧
  State.reset.bank = { romBank := 1#8, ramBank := 0#4, ramEnable := false } ∧
  State.reset.store =
    { romBanks := 0, rom := [], vram := [], eram := [], wram := [[], []], oam := [], io := [], hram := [] } ∧
  State.reset.timer = { div := 0#8, divSub := 0, tima := 0#8, timaSub := 0, tma := 0#8, tac := 0#3 } ∧
  State.reset.ppu =
    { mode := .oamScan, dot := 0, ly := 0#8, lcdc := 0x91#8, stat := 0#4, scy := 0#8, scx := 0#8, lyc := 0#8,
      bgp := 0xFC#8, obp0 := 0xFF#8, obp1 := 0xFF#8, wy := 0#8, wx := 0#8, fb := [] } ∧
  State.reset.spu =
    { cores :=
        [{ reverbEnable := false, irqEnable := false, irqFlag := false, irqAddr := 0, xferAddr := 0
           voices := List.replicate 24
             { volume := 0#16, pitch := 0#16, attack := 0#16, decay := 0#16, sustain := 0#16, release := 0#16
               pos := 0, env := 0, keyOn := false, keyOff := false }
           sram := [], rvbL := [], rvbR := [], rvbIdx := 0 }]
      outbuf := [], phase := 0, latch := [] } ∧
  State.reset.events = [] ∧ busRead State.reset 0xFF40#16 = 0x91#8 ∧ busRead State.reset 0xFF47#16 = 0xFC#8 ∧
  busRead State.reset 0xFF48#16 = 0xFF#8 ∧ busRead State.reset 0xFF49#16 = 0xFF#8

/-- `Reset` keeps the configuration, the ROM image, `ERAM` and `SRAM` (70_reset_and_hazards.md R802) and assigns
everything else (R800): the reset values of the configuration, which in `CFG_REF` are those of `State.reset`. A fresh
instance has no ROM, has every array zero, and is after reset; it is made of every configuration that is well formed and
of no other (R803, R831); that of `CFG_REF` is `State.reset`.
What `RESET_IO` gives besides the values of `CFG_REF` is the model's choice (log 18). -/
def Obligations.ResetRule : Prop :=
  (∀ s : State,
    (hostReset s).cfg = s.cfg ∧ (hostReset s).store.rom = s.store.rom ∧
    (hostReset s).store.romBanks = s.store.romBanks ∧ (hostReset s).store.eram = s.store.eram ∧
    (hostReset s).spu.cores.map SpuCore.sram = s.spu.cores.map SpuCore.sram ∧
    (hostReset s).regs = Regs.resetFor s.cfg ∧ (hostReset s).ppu = Ppu.resetFor s.cfg ∧
    (hostReset s).timer = State.reset.timer ∧ (hostReset s).bank = State.reset.bank ∧
    (hostReset s).ifReg = 0#5 ∧ (hostReset s).ieReg = 0#5 ∧ (hostReset s).ime = false ∧
    (hostReset s).halted = false ∧ (hostReset s).eiPending = false ∧ (hostReset s).events = [] ∧
    (hostReset s).spu.outbuf = [] ∧ (hostReset s).spu.phase = 0 ∧
    (hostReset s).store.vram = [] ∧ (hostReset s).store.wram = List.replicate s.cfg.wramBanks [] ∧
    (hostReset s).store.oam = [] ∧ (hostReset s).store.hram = [] ∧
    (∀ o, (hostReset s).store.io.read o =
      if o < 0x80 ∧ isPlainCell s.cfg o = true then s.cfg.resetIoByte o else 0#8) ∧
    (∀ k ∈ (hostReset s).spu.cores, k = { SpuCore.resetFor s.cfg with sram := k.sram }) ∧
    (s.cfg = Config.ref →
      (hostReset s).regs = State.reset.regs ∧ (hostReset s).ppu = State.reset.ppu ∧ (hostReset s).store.io = [] ∧
      ∀ k ∈ (hostReset s).spu.cores, k = { SpuCore.reset with sram := k.sram })) ∧
  (∀ cfg : Config, (construct cfg = none ↔ cfg.wellFormed = false) ∧
    ∀ s, construct cfg = some s →
      s.cfg = cfg ∧ s.store.romBanks = 0 ∧ s.store.rom = [] ∧ s.store.eram = [] ∧
      s.spu.cores.length = cfg.nSpuCores ∧ (∀ k ∈ s.spu.cores, k.sram = []) ∧ hostReset s = s) ∧
  construct Config.ref = some State.reset

/-- "issuing `reset()` twice in a row yields the same state as issuing it once" (70_reset_and_hazards.md R801). -/
def Obligations.ResetIdempotent : Prop :=
  ∀ s : State, hostReset (hostReset s) = hostReset s

/-! ## Loads and stores -/

/-- Loads of a byte register from a register, from memory at `HL`, from an immediate, and of `A` from memory
(40_loads.md R200, R201, R203, R205, R206, R209, R211, R213, R217, R218). -/
def Obligations.LoadByte : Prop :=
  ∀ (b1 b2 : Byte) (s : State),
    (∀ y z : Reg8, Encodes (opcode 0x40 y.index z.index) 1 b1 b2 (Instr.ldRegReg y z) ∧
      exec (Instr.ldRegReg y z) s = .next ((s.setReg8 y (s.reg8 z)).charge 4)) ∧
    (∀ y : Reg8, Encodes (opcode 0x46 y.index 0) 1 b1 b2 (Instr.ldRegMem y) ∧
      exec (Instr.ldRegMem y) s = .next ((s.setReg8 y (busRead s s.hl)).charge 8)) ∧
    (∀ y : Reg8, Encodes (opcode 0x06 y.index 0) 2 b1 b2 (Instr.ldRegImm y b1) ∧
      exec (Instr.ldRegImm y b1) s = .next ((s.setReg8 y b1).charge 8)) ∧
    (Encodes 0x0A#8 1 b1 b2 .ld_A_atBC ∧
      exec .ld_A_atBC s = .next ((s.setA (busRead s (s.regs.b ++ s.regs.c))).charge 8)) ∧
    (Encodes 0x1A#8 1 b1 b2 .ld_A_atDE ∧
      exec .ld_A_atDE s = .next ((s.setA (busRead s (s.regs.d ++ s.regs.e))).charge 8)) ∧
    (Encodes 0xFA#8 3 b1 b2 (.ld_A_atA16 (b2 ++ b1)) ∧
      exec (.ld_A_atA16 (b2 ++ b1)) s = .next ((s.setA (busRead s (b2 ++ b1))).charge 16)) ∧
    (Encodes 0xF0#8 2 b1 b2 (.ldh_A_atA8 b1) ∧
      exec (.ldh_A_atA8 b1) s = .next ((s.setA (busRead s (0xFF#8 ++ b1))).charge 12)) ∧
    (Encodes 0xF2#8 1 b1 b2 .ld_A_atC ∧
      exec .ld_A_atC s = .next ((s.setA (busRead s (0xFF#8 ++ s.regs.c))).charge 8)) ∧
    (Encodes 0x2A#8 1 b1 b2 .ld_A_atHLinc ∧
      exec .ld_A_atHLinc s = .next (((s.setA (busRead s s.hl)).setHl (s.hl + 1#16)).charge 8)) ∧
    (Encodes 0x3A#8 1 b1 b2 .ld_A_atHLdec ∧
      exec .ld_A_atHLdec s = .next (((s.setA (busRead s s.hl)).setHl (s.hl - 1#16)).charge 8))

/-- Stores of a byte (40_loads.md R202, R204, R207, R208, R210, R212, R214 to R216). The address and the value are
those before the store. -/
def Obligations.StoreByte : Prop :=
  ∀ (b1 b2 : Byte) (s : State),
    (∀ z : Reg8, Encodes (opcode 0x70 0 z.index) 1 b1 b2 (Instr.ldMemReg z) ∧
      exec (Instr.ldMemReg z) s = .next ((busWrite s s.hl (s.reg8 z)).charge 8)) ∧
    (Encodes 0x36#8 2 b1 b2 (.ld_atHL_d8 b1) ∧ exec (.ld_atHL_d8 b1) s = .next ((busWrite s s.hl b1).charge 12)) ∧
    (Encodes 0x02#8 1 b1 b2 .ld_atBC_A ∧
      exec .ld_atBC_A s = .next ((busWrite s (s.regs.b ++ s.regs.c) s.regs.a).charge 8)) ∧
    (Encodes 0x12#8 1 b1 b2 .ld_atDE_A ∧
      exec .ld_atDE_A s = .next ((busWrite s (s.regs.d ++ s.regs.e) s.regs.a).charge 8)) ∧
    (Encodes 0xEA#8 3 b1 b2 (.ld_atA16_A (b2 ++ b1)) ∧
      exec (.ld_atA16_A (b2 ++ b1)) s = .next ((busWrite s (b2 ++ b1) s.regs.a).charge 16)) ∧
    (Encodes 0xE0#8 2 b1 b2 (.ldh_atA8_A b1) ∧
      exec (.ldh_atA8_A b1) s = .next ((busWrite s (0xFF#8 ++ b1) s.regs.a).charge 12)) ∧
    (Encodes 0xE2#8 1 b1 b2 .ld_atC_A ∧
      exec .ld_atC_A s = .next ((busWrite s (0xFF#8 ++ s.regs.c) s.regs.a).charge 8)) ∧
    (Encodes 0x22#8 1 b1 b2 .ld_atHLinc_A ∧
      exec .ld_atHLinc_A s = .next (((busWrite s s.hl s.regs.a).setHl (s.hl + 1#16)).charge 8)) ∧
    (Encodes 0x32#8 1 b1 b2 .ld_atHLdec_A ∧
      exec .ld_atHLdec_A s = .next (((busWrite s s.hl s.regs.a).setHl (s.hl - 1#16)).charge 8))

/-- 16-bit loads and the store of `SP` (40_loads.md R220 to R223; 42_alu16.md R304). -/
def Obligations.LoadPair : Prop :=
  ∀ (b1 b2 : Byte) (s : State),
    (∀ p : Pair, Encodes (opcode 0x01 (2 * p.index) 0) 3 b1 b2 (Instr.ldPairImm p (b2 ++ b1)) ∧
      exec (Instr.ldPairImm p (b2 ++ b1)) s = .next ((s.setPair p (b2 ++ b1)).charge 12)) ∧
    (Encodes 0x08#8 3 b1 b2 (.ld_atA16_SP (b2 ++ b1)) ∧
      exec (.ld_atA16_SP (b2 ++ b1)) s =
        .next ((busWrite (busWrite s (b2 ++ b1) (s.regs.sp.setWidth 8)) ((b2 ++ b1) + 1#16)
          ((s.regs.sp >>> 8).setWidth 8)).charge 20)) ∧
    (Encodes 0xF9#8 1 b1 b2 .ld_SP_HL ∧ exec .ld_SP_HL s = .next ((s.setSp s.hl).charge 8)) ∧
    (Encodes 0xF8#8 2 b1 b2 (.ld_HL_SPe8 b1) ∧
      exec (.ld_HL_SPe8 b1) s =
        .next (((s.setHl (s.regs.sp + b1.signExtend 16)).setFlags
          { z := false, n := false
            h := decide (0x0F < s.regs.sp.toNat % 16 + b1.toNat % 16)
            c := decide (0xFF < s.regs.sp.toNat % 256 + b1.toNat) }).charge 12))

/-- `PUSH` and `POP`: the high byte at `SP - 1`, then the low byte at `SP - 2`; the low byte from `SP`, the high byte
from `SP + 1`; `POP AF` clears `F[3:0]` (40_loads.md R230, R231, R240, R241). -/
def Obligations.PushPop : Prop :=
  ∀ (b1 b2 : Byte) (s : State) (p : StackPair),
    (Encodes (opcode 0xC5 (2 * p.index) 0) 1 b1 b2 (Instr.push p) ∧
      exec (Instr.push p) s =
        .next (((busWrite (busWrite (s.setSp (s.regs.sp - 1#16)) (s.regs.sp - 1#16)
            ((s.stackPair p >>> 8).setWidth 8) |>.setSp (s.regs.sp - 2#16)) (s.regs.sp - 2#16)
            ((s.stackPair p).setWidth 8))).charge 16)) ∧
    (Encodes (opcode 0xC1 (2 * p.index) 0) 1 b1 b2 (Instr.pop p) ∧
      exec (Instr.pop p) s =
        .next (((s.setSp (s.regs.sp + 2#16)).setStackPair p
          (busRead s (s.regs.sp + 1#16) ++ busRead s s.regs.sp)).charge 12)) ∧
    (s.setStackPair .af (s.stackPair p)).regs.f = (s.stackPair p).setWidth 8 &&& 0xF0#8

/-- `PUSH` then `POP` of one pair gives the pair and `SP` back, where the stack is in the work RAM of `CFG_REF`'s map
(40_loads.md R230, R231). -/
def Obligations.PushThenPop : Prop :=
  ∀ (p : StackPair) (s t u : State),
    s.Inv → s.cfg.memoryMap = MemoryMap.ref → 0xC002 ≤ s.regs.sp.toNat → s.regs.sp.toNat ≤ 0xE000 →
    exec (Instr.push p) s = .next t → exec (Instr.pop p) t = .next u →
    u.regs = s.regs ∧ u.stackPair p = s.stackPair p

/-! ## 8-bit arithmetic and logic -/

/-- `ADD` and `ADC` in their three forms (41_alu8.md R260, R261, R276). -/
def Obligations.AddAdc : Prop :=
  AluEncoded .add ∧ AluEncoded .adc ∧ ∀ s : State,
    ForAluForms .add s (fun i v n => exec i s =
      .next (((s.setA (BitVec.ofNat 8 (s.regs.a.toNat + v.toNat))).setFlags
        { z := decide ((s.regs.a.toNat + v.toNat) % 256 = 0), n := false
          h := decide (0x0F < s.regs.a.toNat % 16 + v.toNat % 16)
          c := decide (0xFF < s.regs.a.toNat + v.toNat) }).charge n)) ∧
    ForAluForms .adc s (fun i v n => exec i s =
      .next (((s.setA (BitVec.ofNat 8 (s.regs.a.toNat + v.toNat + s.flags.c.toNat))).setFlags
        { z := decide ((s.regs.a.toNat + v.toNat + s.flags.c.toNat) % 256 = 0), n := false
          h := decide (0x0F < s.regs.a.toNat % 16 + v.toNat % 16 + s.flags.c.toNat)
          c := decide (0xFF < s.regs.a.toNat + v.toNat + s.flags.c.toNat) }).charge n))

/-- `SUB`, `SBC` and `CP` in their three forms (41_alu8.md R262, R263, R267, R276): the difference modulo 256, with the
borrows of bits 4 and 8; `CP` leaves `A`. -/
def Obligations.SubSbcCp : Prop :=
  AluEncoded .sub ∧ AluEncoded .sbc ∧ AluEncoded .cp ∧ ∀ s : State,
    ForAluForms .sub s (fun i v n => exec i s =
      .next (((s.setA (s.regs.a - v)).setFlags
        { z := decide (s.regs.a = v), n := true
          h := decide (s.regs.a.toNat % 16 < v.toNat % 16)
          c := decide (s.regs.a.toNat < v.toNat) }).charge n)) ∧
    ForAluForms .sbc s (fun i v n => exec i s =
      .next (((s.setA (s.regs.a - v - BitVec.ofNat 8 s.flags.c.toNat)).setFlags
        { z := decide (s.regs.a - v - BitVec.ofNat 8 s.flags.c.toNat = 0#8), n := true
          h := decide (s.regs.a.toNat % 16 < v.toNat % 16 + s.flags.c.toNat)
          c := decide (s.regs.a.toNat < v.toNat + s.flags.c.toNat) }).charge n)) ∧
    ForAluForms .cp s (fun i v n => exec i s =
      .next ((s.setFlags
        { z := decide (s.regs.a = v), n := true
          h := decide (s.regs.a.toNat % 16 < v.toNat % 16)
          c := decide (s.regs.a.toNat < v.toNat) }).charge n))

/-- `AND`, `XOR` and `OR` in their three forms (41_alu8.md R264 to R266, R276). -/
def Obligations.LogicOps : Prop :=
  AluEncoded .and ∧ AluEncoded .xor ∧ AluEncoded .or ∧ ∀ s : State,
    ForAluForms .and s (fun i v n => exec i s =
      .next (((s.setA (s.regs.a &&& v)).setFlags
        { z := decide (s.regs.a &&& v = 0#8), n := false, h := true, c := false }).charge n)) ∧
    ForAluForms .xor s (fun i v n => exec i s =
      .next (((s.setA (s.regs.a ^^^ v)).setFlags
        { z := decide (s.regs.a ^^^ v = 0#8), n := false, h := false, c := false }).charge n)) ∧
    ForAluForms .or s (fun i v n => exec i s =
      .next (((s.setA (s.regs.a ||| v)).setFlags
        { z := decide (s.regs.a ||| v = 0#8), n := false, h := false, c := false }).charge n))

/-- `INC` and `DEC` of a byte: "never touches carry" (41_alu8.md R268 to R271). The memory forms set the flags from the
value read, then store. -/
def Obligations.IncDecByte : Prop :=
  ∀ (b1 b2 : Byte) (s : State),
    (∀ r : Reg8, Encodes (opcode 0x04 r.index 0) 1 b1 b2 (Instr.incReg r) ∧
      exec (Instr.incReg r) s =
        .next (((s.setReg8 r (s.reg8 r + 1#8)).setFlags
          { z := decide (s.reg8 r + 1#8 = 0#8), n := false
            h := decide (s.reg8 r &&& 0x0F#8 = 0x0F#8), c := s.flags.c }).charge 4)) ∧
    (Encodes 0x34#8 1 b1 b2 .inc_atHL ∧
      exec .inc_atHL s =
        .next ((busWrite (s.setFlags
          { z := decide (busRead s s.hl + 1#8 = 0#8), n := false
            h := decide (busRead s s.hl &&& 0x0F#8 = 0x0F#8), c := s.flags.c }) s.hl
          (busRead s s.hl + 1#8)).charge 12)) ∧
    (∀ r : Reg8, Encodes (opcode 0x05 r.index 0) 1 b1 b2 (Instr.decReg r) ∧
      exec (Instr.decReg r) s =
        .next (((s.setReg8 r (s.reg8 r - 1#8)).setFlags
          { z := decide (s.reg8 r - 1#8 = 0#8), n := true
            h := decide (s.reg8 r &&& 0x0F#8 = 0x00#8), c := s.flags.c }).charge 4)) ∧
    (Encodes 0x35#8 1 b1 b2 .dec_atHL ∧
      exec .dec_atHL s =
        .next ((busWrite (s.setFlags
          { z := decide (busRead s s.hl - 1#8 = 0#8), n := true
            h := decide (busRead s s.hl &&& 0x0F#8 = 0x00#8), c := s.flags.c }) s.hl
          (busRead s s.hl - 1#8)).charge 12))

/-- `DAA`, `CPL`, `SCF` and `CCF` (41_alu8.md R272 to R275): both tests of the addition branch of `DAA` use the value
before any adjustment. -/
def Obligations.AdjustAndComplement : Prop :=
  ∀ (b1 b2 : Byte) (s : State),
    let lo : Byte := if s.flags.h || (!s.flags.n && decide (9 < s.regs.a.toNat % 16)) then 0x06#8 else 0x00#8
    let hi : Byte := if s.flags.c || (!s.flags.n && decide (0x99 < s.regs.a.toNat)) then 0x60#8 else 0x00#8
    let a : Byte := if s.flags.n then s.regs.a - (hi ||| lo) else s.regs.a + (hi ||| lo)
    (Encodes 0x27#8 1 b1 b2 .daa ∧
      exec .daa s =
        .next (((s.setA a).setFlags
          { z := decide (a = 0#8), n := s.flags.n, h := false
            c := s.flags.c || (!s.flags.n && decide (0x99 < s.regs.a.toNat)) }).charge 4)) ∧
    (Encodes 0x2F#8 1 b1 b2 .cpl ∧
      exec .cpl s =
        .next (((s.setA (s.regs.a ^^^ 0xFF#8)).setFlags
          { z := s.flags.z, n := true, h := true, c := s.flags.c }).charge 4)) ∧
    (Encodes 0x37#8 1 b1 b2 .scf ∧
      exec .scf s = .next ((s.setFlags { z := s.flags.z, n := false, h := false, c := true }).charge 4)) ∧
    (Encodes 0x3F#8 1 b1 b2 .ccf ∧
      exec .ccf s = .next ((s.setFlags { z := s.flags.z, n := false, h := false, c := !s.flags.c }).charge 4))

/-- Writing the four flags writes `F[7:4]` in the order Z, N, H, C and keeps `F[3:0]`; what is written is what is read
(10_state.md R23, R24). -/
def Obligations.FlagsInHighNibble : Prop :=
  ∀ (s : State) (fl : Flags),
    (s.setFlags fl).flags = fl ∧ (s.setFlags fl).regs.f &&& 0x0F#8 = s.regs.f &&& 0x0F#8 ∧
    s.flags = { z := s.regs.f.getLsbD 7, n := s.regs.f.getLsbD 6, h := s.regs.f.getLsbD 5, c := s.regs.f.getLsbD 4 } ∧
    (s.setFlags fl).regs = { s.regs with f := (s.setFlags fl).regs.f } ∧
    s.setFlags fl = { s with regs := (s.setFlags fl).regs }

/-! ## 16-bit arithmetic -/

/-- `ADD HL,rp`, `INC rp`, `DEC rp` and `ADD SP,e8` (42_alu16.md R300 to R303): half-carry from bit 11 and carry from
bit 15, `fZ` kept; increments and decrements touch no flag; the flags of `ADD SP,e8` come from the unsigned addition of
the low byte of `SP` and the operand byte. -/
def Obligations.WordArithmetic : Prop :=
  ∀ (b1 b2 : Byte) (s : State),
    (∀ p : Pair, Encodes (opcode 0x09 (2 * p.index) 0) 1 b1 b2 (Instr.addHl p) ∧
      exec (Instr.addHl p) s =
        .next (((s.setHl (s.hl + s.pair p)).setFlags
          { z := s.flags.z, n := false
            h := decide (0x0FFF < s.hl.toNat % 0x1000 + (s.pair p).toNat % 0x1000)
            c := decide (0xFFFF < s.hl.toNat + (s.pair p).toNat) }).charge 8)) ∧
    (∀ p : Pair, Encodes (opcode 0x03 (2 * p.index) 0) 1 b1 b2 (Instr.incPair p) ∧
      exec (Instr.incPair p) s = .next ((s.setPair p (s.pair p + 1#16)).charge 8)) ∧
    (∀ p : Pair, Encodes (opcode 0x0B (2 * p.index) 0) 1 b1 b2 (Instr.decPair p) ∧
      exec (Instr.decPair p) s = .next ((s.setPair p (s.pair p - 1#16)).charge 8)) ∧
    (Encodes 0xE8#8 2 b1 b2 (.add_SP_e8 b1) ∧
      exec (.add_SP_e8 b1) s =
        .next (((s.setSp (s.regs.sp + b1.signExtend 16)).setFlags
          { z := false, n := false
            h := decide (0x0F < s.regs.sp.toNat % 16 + b1.toNat % 16)
            c := decide (0xFF < s.regs.sp.toNat % 256 + b1.toNat) }).charge 16))

/-! ## Rotates, shifts and bits -/

/-- The accumulator rotates: `fZ` is cleared even when `A` is 0 (43_rotates_bits.md R320 to R323). -/
def Obligations.AccumulatorRotates : Prop :=
  ∀ (b1 b2 : Byte) (s : State),
    let result (op : RotOp) : Result :=
      .next (((s.setA (BitVec.ofNat 8 (rotArith op s.regs.a.toNat s.flags.c.toNat).1)).setFlags
        { z := false, n := false, h := false
          c := decide ((rotArith op s.regs.a.toNat s.flags.c.toNat).2 = 1) }).charge 4)
    (Encodes 0x07#8 1 b1 b2 .rlca ∧ exec .rlca s = result .rlc) ∧
    (Encodes 0x0F#8 1 b1 b2 .rrca ∧ exec .rrca s = result .rrc) ∧
    (Encodes 0x17#8 1 b1 b2 .rla ∧ exec .rla s = result .rl) ∧
    (Encodes 0x1F#8 1 b1 b2 .rra ∧ exec .rra s = result .rr)

/-- The CB-page rotates and shifts, on a register and on memory (43_rotates_bits.md R329 to R337). -/
def Obligations.RotatesAndShifts : Prop :=
  ∀ (op : RotOp) (b2 : Byte) (s : State),
    let res (v : Byte) : Byte := BitVec.ofNat 8 (rotArith op v.toNat s.flags.c.toNat).1
    let flags (v : Byte) : Flags :=
      { z := decide (res v = 0#8), n := false, h := false
        c := decide ((rotArith op v.toNat s.flags.c.toNat).2 = 1) }
    (∀ r : Reg8, Encodes 0xCB#8 2 (opcode 0x00 op.index r.index) b2 (Instr.rotReg op r) ∧
      exec (Instr.rotReg op r) s = .next (((s.setReg8 r (res (s.reg8 r))).setFlags (flags (s.reg8 r))).charge 8)) ∧
    (Encodes 0xCB#8 2 (opcode 0x06 op.index 0) b2 (Instr.rotMem op) ∧
      exec (Instr.rotMem op) s =
        .next ((busWrite (s.setFlags (flags (busRead s s.hl))) s.hl (res (busRead s s.hl))).charge 16))

/-- `BIT`, `RES` and `SET`, on a register and on memory (43_rotates_bits.md R329, R338 to R340). -/
def Obligations.BitOperations : Prop :=
  ∀ (i : Index3) (b2 : Byte) (s : State),
    let bit (v : Byte) : Nat := v.toNat / 2 ^ i.toNat % 2
    let tested (v : Byte) : Flags := { z := decide (bit v = 0), n := false, h := true, c := s.flags.c }
    let cleared (v : Byte) : Byte := BitVec.ofNat 8 (v.toNat - 2 ^ i.toNat * bit v)
    let set (v : Byte) : Byte := BitVec.ofNat 8 (v.toNat + 2 ^ i.toNat * (1 - bit v))
    (∀ r : Reg8, Encodes 0xCB#8 2 (opcode 0x40 i.toNat r.index) b2 (Instr.bitReg i r) ∧
      exec (Instr.bitReg i r) s = .next ((s.setFlags (tested (s.reg8 r))).charge 8)) ∧
    (Encodes 0xCB#8 2 (opcode 0x46 i.toNat 0) b2 (Instr.bitMem i) ∧
      exec (Instr.bitMem i) s = .next ((s.setFlags (tested (busRead s s.hl))).charge 12)) ∧
    (∀ r : Reg8, Encodes 0xCB#8 2 (opcode 0x80 i.toNat r.index) b2 (Instr.resReg i r) ∧
      exec (Instr.resReg i r) s = .next ((s.setReg8 r (cleared (s.reg8 r))).charge 8)) ∧
    (Encodes 0xCB#8 2 (opcode 0x86 i.toNat 0) b2 (Instr.resMem i) ∧
      exec (Instr.resMem i) s = .next ((busWrite s s.hl (cleared (busRead s s.hl))).charge 16)) ∧
    (∀ r : Reg8, Encodes 0xCB#8 2 (opcode 0xC0 i.toNat r.index) b2 (Instr.setReg i r) ∧
      exec (Instr.setReg i r) s = .next ((s.setReg8 r (set (s.reg8 r))).charge 8)) ∧
    (Encodes 0xCB#8 2 (opcode 0xC6 i.toNat 0) b2 (Instr.setMem i) ∧
      exec (Instr.setMem i) s = .next ((busWrite s s.hl (set (busRead s s.hl))).charge 16))

/-! ## Control transfer -/

/-- Jumps: only `PC` and the cycle count change; an untaken jump leaves `PC` past the instruction (44_control.md R360
to R364; the conditions of 30_encoding.md R149). -/
def Obligations.Jumps : Prop :=
  ∀ (b1 b2 : Byte) (s : State),
    (Encodes 0xC3#8 3 b1 b2 (.jp_a16 (b2 ++ b1)) ∧
      exec (.jp_a16 (b2 ++ b1)) s = .next ((s.setPc (b2 ++ b1)).charge 16)) ∧
    (∀ cc : Cond, Encodes (opcode 0xC2 cc.index 0) 3 b1 b2 (Instr.jpCond cc (b2 ++ b1)) ∧
      exec (Instr.jpCond cc (b2 ++ b1)) s =
        .next (if s.holds cc then (s.setPc (b2 ++ b1)).charge 16 else s.charge 12)) ∧
    (Encodes 0xE9#8 1 b1 b2 .jp_HL ∧ exec .jp_HL s = .next ((s.setPc s.hl).charge 4)) ∧
    (Encodes 0x18#8 2 b1 b2 (.jr_e8 b1) ∧
      exec (.jr_e8 b1) s = .next ((s.setPc (s.regs.pc + b1.signExtend 16)).charge 12)) ∧
    (∀ cc : Cond, Encodes (opcode 0x20 cc.index 0) 2 b1 b2 (Instr.jrCond cc b1) ∧
      exec (Instr.jrCond cc b1) s =
        .next (if s.holds cc then (s.setPc (s.regs.pc + b1.signExtend 16)).charge 12 else s.charge 8)) ∧
    s.holds .nz = !s.flags.z ∧ s.holds .z = s.flags.z ∧ s.holds .nc = !s.flags.c ∧ s.holds .c = s.flags.c

/-- Calls and restarts push the address of the next instruction (44_control.md R370, R371, R376); an untaken call
touches neither `SP` nor memory. -/
def Obligations.Calls : Prop :=
  ∀ (b1 b2 : Byte) (s : State),
    (Encodes 0xCD#8 3 b1 b2 (.call_a16 (b2 ++ b1)) ∧
      exec (.call_a16 (b2 ++ b1)) s = .next (((push16 s.regs.pc s).setPc (b2 ++ b1)).charge 24)) ∧
    (∀ cc : Cond, Encodes (opcode 0xC4 cc.index 0) 3 b1 b2 (Instr.callCond cc (b2 ++ b1)) ∧
      exec (Instr.callCond cc (b2 ++ b1)) s =
        .next (if s.holds cc then ((push16 s.regs.pc s).setPc (b2 ++ b1)).charge 24 else s.charge 12)) ∧
    (∀ y : Index3, Encodes (opcode 0xC7 y.toNat 0) 1 b1 b2 (Instr.rst y) ∧
      exec (Instr.rst y) s = .next (((push16 s.regs.pc s).setPc (BitVec.ofNat 16 (8 * y.toNat))).charge 16))

/-- Returns pop `PC`; `RETI` also sets the latch, at once, and clears the latch of `EI` (44_control.md R372 to R374;
40_loads.md R241). -/
def Obligations.Returns : Prop :=
  ∀ (b1 b2 : Byte) (s : State),
    let popped : Word := busRead s (s.regs.sp + 1#16) ++ busRead s s.regs.sp
    let back : State := (s.setSp (s.regs.sp + 2#16)).setPc popped
    (Encodes 0xC9#8 1 b1 b2 .ret ∧ exec .ret s = .next (back.charge 16)) ∧
    (∀ cc : Cond, Encodes (opcode 0xC0 cc.index 0) 1 b1 b2 (Instr.retCond cc) ∧
      exec (Instr.retCond cc) s = .next (if s.holds cc then back.charge 20 else s.charge 8)) ∧
    (Encodes 0xD9#8 1 b1 b2 .reti ∧
      exec .reti s = .next { back with ime := true, eiPending := false, cycles := s.cycles + 16 })

/-! ## System -/

/-- `NOP`, `HALT`, `DI` and `EI` (45_system.md R390 to R393): `EI` sets the latch at once where `EI_DELAY = 0`, else
at the end of the next instruction, unless that one has taken it back (60_exceptions.md R500: `arm` is the latch before the
instruction). An unknown opcode logs itself and the address it was fetched from,
and does nothing else, for the cycles the configuration gives it (45_system.md R396). -/
def Obligations.SystemInstructions : Prop :=
  ∀ (b1 b2 : Byte) (s : State),
    (Encodes 0x00#8 1 b1 b2 .nop ∧ exec .nop s = .next { s with cycles := s.cycles + 4 }) ∧
    (Encodes 0x76#8 1 b1 b2 .halt ∧ exec .halt s = .next { s with halted := true, cycles := s.cycles + 4 }) ∧
    (Encodes 0xF3#8 1 b1 b2 .di ∧
      exec .di s = .next { s with ime := false, eiPending := false, cycles := s.cycles + 4 }) ∧
    (Encodes 0xFB#8 1 b1 b2 .ei ∧
      exec .ei s = .next (if s.cfg.eiDelay then { s with eiPending := true, cycles := s.cycles + 4 }
        else { s with ime := true, cycles := s.cycles + 4 })) ∧
    (∀ arm : Bool, armLatch arm s =
      if s.cfg.eiDelay = true ∧ arm = true ∧ s.eiPending = true then { s with ime := true, eiPending := false }
      else s) ∧
    (∀ op ∈ unknownOpcodes, Encodes op 1 b1 b2 (.unknown op)) ∧
    ∀ op : Byte, exec (.unknown op) s =
      .next { s with
        events := s.events ++ [.unknownOpcode op (s.regs.pc - 1#16)], cycles := s.cycles + s.cfg.unknownOpCycles }

/-- The CB prefix "has no effect of its own": its meaning is that of the CB-page instruction its sub-opcode selects,
in `CFG_REF` the one the decoder reads, which answers a next state, 8, 12 or 16 cycles on (45_system.md R394). -/
def Obligations.PrefixSelects : Prop :=
  ∀ (sub b2 : Byte) (s : State),
    decodeBytes 0xCB#8 sub b2 = decodeCb sub ∧ InstrTable.ref.cbRow sub = sub ∧
    ∃ t, exec (.prefixCb sub) s = .next t ∧ exec (decodeCb (s.cfg.instrTable.cbRow sub)) s = .next t ∧
      (t.cycles = s.cycles + 8 ∨ t.cycles = s.cycles + 12 ∨ t.cycles = s.cycles + 16)

/-! ## Frames -/

/-- What loads leave alone (40_loads.md: "no flag is changed"). A pair load writes the pair; `POP` moves `SP`, and
`POP AF` writes the flags; `LD HL,SP+e8` writes `HL` and the flags. -/
def Obligations.LoadFrame : Prop :=
  ∀ s t : State,
    (∀ y z : Reg8, exec (Instr.ldRegReg y z) s = .next t → Frame s t [y] false false []) ∧
    (∀ y : Reg8, exec (Instr.ldRegMem y) s = .next t → Frame s t [y] false false []) ∧
    (∀ (y : Reg8) (v : Byte), exec (Instr.ldRegImm y v) s = .next t → Frame s t [y] false false []) ∧
    (∀ i ∈ [Instr.ld_A_atBC, .ld_A_atDE, .ld_A_atC], exec i s = .next t → Frame s t [.a] false false []) ∧
    (∀ a : Word, exec (.ld_A_atA16 a) s = .next t → Frame s t [.a] false false []) ∧
    (∀ n : Byte, exec (.ldh_A_atA8 n) s = .next t → Frame s t [.a] false false []) ∧
    (∀ i ∈ [Instr.ld_A_atHLinc, .ld_A_atHLdec], exec i s = .next t → Frame s t [.a, .h, .l] false false []) ∧
    (∀ (p : Pair) (v : Word), exec (Instr.ldPairImm p v) s = .next t →
      Frame s t (pairRegs p) (decide (p = .sp)) false []) ∧
    (exec .ld_SP_HL s = .next t → Frame s t [] true false []) ∧
    (∀ e : Byte, exec (.ld_HL_SPe8 e) s = .next t → Frame s t [.h, .l] false true []) ∧
    (∀ p : StackPair, s.regs.Legal → exec (Instr.pop p) s = .next t →
      Frame s t (stackPairRegs p) true (decide (p = .af)) [])

/-- What stores leave alone: every register but the one the addressing moves, the flags, and every byte no store
reaches. The addresses are those the meanings store to. -/
def Obligations.StoreFrame : Prop :=
  ∀ s t : State,
    (∀ z : Reg8, exec (Instr.ldMemReg z) s = .next t → Frame s t [] false false [s.hl]) ∧
    (∀ v : Byte, exec (.ld_atHL_d8 v) s = .next t → Frame s t [] false false [s.hl]) ∧
    (exec .ld_atBC_A s = .next t → Frame s t [] false false [s.bc]) ∧
    (exec .ld_atDE_A s = .next t → Frame s t [] false false [s.de]) ∧
    (∀ a : Word, exec (.ld_atA16_A a) s = .next t → Frame s t [] false false [a]) ∧
    (∀ n : Byte, exec (.ldh_atA8_A n) s = .next t → Frame s t [] false false [ioPage n]) ∧
    (exec .ld_atC_A s = .next t → Frame s t [] false false [ioPage s.regs.c]) ∧
    (∀ i ∈ [Instr.ld_atHLinc_A, .ld_atHLdec_A], exec i s = .next t → Frame s t [.h, .l] false false [s.hl]) ∧
    (∀ a : Word, exec (.ld_atA16_SP a) s = .next t → Frame s t [] false false [a, a + 1#16]) ∧
    (∀ p : StackPair, exec (Instr.push p) s = .next t → Frame s t [] true false (pushAddresses s))

/-- What arithmetic, logic, rotates and bit operations on registers leave alone. `INC rp` and `DEC rp` touch no flag,
nor do `RES` and `SET`; `CP` and `BIT` write flags only. -/
def Obligations.ArithmeticFrame : Prop :=
  ∀ s t : State,
    (∀ op : AluOp, op ≠ .cp → ForAluForms op s fun i _ _ => exec i s = .next t → Frame s t [.a] false true []) ∧
    (ForAluForms .cp s fun i _ _ => exec i s = .next t → Frame s t [] false true []) ∧
    (∀ r : Reg8, exec (Instr.incReg r) s = .next t → Frame s t [r] false true []) ∧
    (∀ r : Reg8, exec (Instr.decReg r) s = .next t → Frame s t [r] false true []) ∧
    (∀ i ∈ [Instr.daa, .cpl, .rlca, .rrca, .rla, .rra], exec i s = .next t → Frame s t [.a] false true []) ∧
    (∀ i ∈ [Instr.scf, .ccf], exec i s = .next t → Frame s t [] false true []) ∧
    (∀ p : Pair, exec (Instr.addHl p) s = .next t → Frame s t [.h, .l] false true []) ∧
    (∀ p : Pair, exec (Instr.incPair p) s = .next t → Frame s t (pairRegs p) (decide (p = .sp)) false []) ∧
    (∀ p : Pair, exec (Instr.decPair p) s = .next t → Frame s t (pairRegs p) (decide (p = .sp)) false []) ∧
    (∀ e : Byte, exec (.add_SP_e8 e) s = .next t → Frame s t [] true true []) ∧
    (∀ (op : RotOp) (r : Reg8), exec (Instr.rotReg op r) s = .next t → Frame s t [r] false true []) ∧
    (∀ (i : Index3) (r : Reg8), exec (Instr.bitReg i r) s = .next t → Frame s t [] false true []) ∧
    (∀ i : Index3, exec (Instr.bitMem i) s = .next t → Frame s t [] false true []) ∧
    (∀ (i : Index3) (r : Reg8), exec (Instr.resReg i r) s = .next t → Frame s t [r] false false []) ∧
    (∀ (i : Index3) (r : Reg8), exec (Instr.setReg i r) s = .next t → Frame s t [r] false false [])

/-- What read-modify-write on `(HL)` leaves alone: every register, and every byte a store to `HL` does not reach. -/
def Obligations.ReadModifyWriteFrame : Prop :=
  ∀ s t : State,
    (∀ i ∈ [Instr.inc_atHL, .dec_atHL], exec i s = .next t → Frame s t [] false true [s.hl]) ∧
    (∀ op : RotOp, exec (Instr.rotMem op) s = .next t → Frame s t [] false true [s.hl]) ∧
    (∀ i : Index3, exec (Instr.resMem i) s = .next t → Frame s t [] false false [s.hl]) ∧
    (∀ i : Index3, exec (Instr.setMem i) s = .next t → Frame s t [] false false [s.hl])

/-- What control transfers leave alone: no flag, no register but `PC` and, for calls and returns, `SP`; calls store to
the two bytes below `SP` and to nothing else (44_control.md: "No instruction of this file changes a flag"). -/
def Obligations.ControlFrame : Prop :=
  ∀ s t : State,
    (∀ a : Word, exec (.jp_a16 a) s = .next t → Frame s t [] false false []) ∧
    (∀ (cc : Cond) (a : Word), exec (Instr.jpCond cc a) s = .next t → Frame s t [] false false []) ∧
    (exec .jp_HL s = .next t → Frame s t [] false false []) ∧
    (∀ e : Byte, exec (.jr_e8 e) s = .next t → Frame s t [] false false []) ∧
    (∀ (cc : Cond) (e : Byte), exec (Instr.jrCond cc e) s = .next t → Frame s t [] false false []) ∧
    (∀ a : Word, exec (.call_a16 a) s = .next t → Frame s t [] true false (pushAddresses s)) ∧
    (∀ (cc : Cond) (a : Word), s.holds cc = true → exec (Instr.callCond cc a) s = .next t →
      Frame s t [] true false (pushAddresses s)) ∧
    (∀ (cc : Cond) (a : Word), s.holds cc = false → exec (Instr.callCond cc a) s = .next t →
      Frame s t [] false false []) ∧
    (∀ y : Index3, exec (Instr.rst y) s = .next t → Frame s t [] true false (pushAddresses s)) ∧
    (exec .ret s = .next t → Frame s t [] true false []) ∧
    (∀ cc : Cond, exec (Instr.retCond cc) s = .next t → Frame s t [] (s.holds cc) false []) ∧
    (exec .nop s = .next t → Frame s t [] false false [])

/-! ## The bus -/

/-- "Writes into the fixed/switchable ROM ranges are silently discarded (ROM is immutable)" (20_memory.md R75): no
state changes, so every later read answers as before. No configuration backs an address below 0x8000 with anything
but ROM. -/
def Obligations.RomWritesDiscarded : Prop :=
  ∀ (s : State) (a b : Word) (v : Byte), s.cfg.wellFormed = true → a.toNat ≤ 0x7FFF →
    busWrite s a v = s ∧ busRead (busWrite s a v) b = busRead s b

/-- The region table of `CFG_REF`: what a bus read answers and a bus write changes, region by region (20_memory.md R73,
R74, R76 to R82, R84, R85). The ROM windows show an image where one is loaded. External RAM (R77): absent, it reads 0
and drops writes; present, it reads the selected bank whether or not it is enabled, and takes a write only while it
is. -/
def Obligations.BusRegions : Prop :=
  ∀ (s : State) (a : Word) (v : Byte), s.cfg.memoryMap = MemoryMap.ref →
    (s.store.romBanks ≠ 0 → a.toNat ≤ 0x3FFF → busRead s a = s.store.rom.read a.toNat) ∧
    (s.store.romBanks ≠ 0 → 0x4000 ≤ a.toNat → a.toNat ≤ 0x7FFF →
      busRead s a =
        s.store.rom.read ((s.bank.romBank.toNat % s.store.romBanks) * 0x4000 + (a.toNat - 0x4000))) ∧
    (0x8000 ≤ a.toNat → a.toNat ≤ 0x9FFF →
      busRead s a = s.store.vram.read (a.toNat - 0x8000) ∧
      busWrite s a v = s.setStore { s.store with vram := s.store.vram.write (a.toNat - 0x8000) v }) ∧
    (0xA000 ≤ a.toNat → a.toNat ≤ 0xBFFF →
      let k := (s.bank.ramBank.toNat % s.cfg.ramBanks) * 0x2000 + (a.toNat - 0xA000)
      (s.cfg.ramBanks = 0 → busRead s a = 0#8 ∧ busWrite s a v = s) ∧
      (s.cfg.ramBanks ≠ 0 → busRead s a = s.store.eram.read k) ∧
      (s.cfg.ramBanks ≠ 0 → s.bank.ramEnable = false → busWrite s a v = s) ∧
      (s.cfg.ramBanks ≠ 0 → s.bank.ramEnable = true →
        busWrite s a v = s.setStore { s.store with eram := s.store.eram.write k v })) ∧
    (0xC000 ≤ a.toNat → a.toNat ≤ 0xCFFF →
      busRead s a = (s.store.wram.getD 0 []).read (a.toNat - 0xC000) ∧
      busWrite s a v = s.setStore { s.store with
        wram := s.store.wram.modify 0 fun m => m.write (a.toNat - 0xC000) v }) ∧
    (0xD000 ≤ a.toNat → a.toNat ≤ 0xDFFF →
      busRead s a = (s.store.wram.getD 1 []).read (a.toNat - 0xD000) ∧
      busWrite s a v = s.setStore { s.store with
        wram := s.store.wram.modify 1 fun m => m.write (a.toNat - 0xD000) v }) ∧
    (0xE000 ≤ a.toNat → a.toNat ≤ 0xFDFF →
      busRead s a = busRead s (a - 0x2000#16) ∧ busWrite s a v = busWrite s (a - 0x2000#16) v) ∧
    (0xFE00 ≤ a.toNat → a.toNat ≤ 0xFE9F →
      busRead s a = s.store.oam.read (a.toNat - 0xFE00) ∧
      busWrite s a v = s.setStore { s.store with oam := s.store.oam.write (a.toNat - 0xFE00) v }) ∧
    (0xFEA0 ≤ a.toNat → a.toNat ≤ 0xFEFF → busRead s a = 0#8 ∧ busWrite s a v = s) ∧
    (0xFF80 ≤ a.toNat → a.toNat ≤ 0xFFFE →
      busRead s a = s.store.hram.read (a.toNat - 0xFF80) ∧
      busWrite s a v = s.setStore { s.store with hram := s.store.hram.write (a.toNat - 0xFF80) v }) ∧
    busRead s 0xFFFF#16 = 0#3 ++ s.ieReg ∧ busWrite s 0xFFFF#16 v = s.setIe (v.setWidth 5)

/-- A byte written to video, external, work, sprite or high RAM of `CFG_REF`'s map reads back, at both addresses of a
mirrored byte; in every map a write reaches no further than `reaches` says (20_memory.md R76 to R81, R84). -/
def Obligations.RamReadsBack : Prop :=
  (∀ (s : State) (a b : Word) (v : Byte), s.Inv → s.cfg.memoryMap = MemoryMap.ref →
    ((0x8000 ≤ a.toNat ∧ a.toNat ≤ 0x9FFF) ∨ (0xC000 ≤ a.toNat ∧ a.toNat ≤ 0xFE9F) ∨
      (0xFF80 ≤ a.toNat ∧ a.toNat ≤ 0xFFFE) ∨
      (0xA000 ≤ a.toNat ∧ a.toNat ≤ 0xBFFF ∧ s.cfg.ramBanks ≠ 0 ∧ s.bank.ramEnable = true)) →
    (b = a ∨ (0xE000 ≤ a.toNat ∧ a.toNat ≤ 0xFDFF ∧ b = a - 0x2000#16) ∨
      (0xE000 ≤ b.toNat ∧ b.toNat ≤ 0xFDFF ∧ a = b - 0x2000#16)) →
    busRead (busWrite s a v) b = v) ∧
  ∀ (s : State) (a b : Word) (v : Byte), reaches s.cfg a b = false → busRead (busWrite s a v) b = busRead s b

/-- The registers of the timer, of the interrupt controller and of the pixel pipeline (20_memory.md R88 to R91, R93 to
R98, R100, R101; 61_ppu.md R640, R641). A write that turns the pipeline off forces HBLANK; one that turns it on
restarts at scanline 0. While it is off `STAT[1:0]` reads 0. The addresses are those of `CFG_REF`'s map. -/
def Obligations.ComponentRegisters : Prop :=
  ∀ (s : State) (v : Byte), s.cfg.memoryMap = MemoryMap.ref →
    (busRead s 0xFF04#16 = s.timer.div ∧
      busWrite s 0xFF04#16 v = s.setTimer { s.timer with div := 0#8, divSub := 0 }) ∧
    (busRead s 0xFF05#16 = s.timer.tima ∧ busWrite s 0xFF05#16 v = s.setTimer { s.timer with tima := v }) ∧
    (busRead s 0xFF06#16 = s.timer.tma ∧ busWrite s 0xFF06#16 v = s.setTimer { s.timer with tma := v }) ∧
    (busRead s 0xFF07#16 = 0#5 ++ s.timer.tac ∧
      busWrite s 0xFF07#16 v = s.setTimer { s.timer with tac := v.setWidth 3 }) ∧
    (busRead s 0xFF0F#16 = 0#3 ++ s.ifReg ∧ busWrite s 0xFF0F#16 v = s.setIf (v.setWidth 5)) ∧
    (busRead s 0xFF40#16 = s.ppu.lcdc ∧
      busWrite s 0xFF40#16 v = s.setPpu (
        if s.ppu.lcdc.getLsbD 7 && !v.getLsbD 7 then { s.ppu with lcdc := v, mode := .hblank, dot := 0 }
        else if !s.ppu.lcdc.getLsbD 7 && v.getLsbD 7 then
          { s.ppu with lcdc := v, mode := .oamScan, dot := 0, ly := 0#8 }
        else { s.ppu with lcdc := v })) ∧
    (busRead s 0xFF41#16 =
        0#1 ++ s.ppu.stat ++ BitVec.ofBool (decide (s.ppu.ly = s.ppu.lyc)) ++
          (if s.ppu.lcdc.getLsbD 7 then
            match s.ppu.mode with
            | .hblank => 0#2
            | .vblank => 1#2
            | .oamScan => 2#2
            | .pixelTransfer => 3#2
          else 0#2) ∧
      busWrite s 0xFF41#16 v = s.setPpu { s.ppu with stat := v.extractLsb' 3 4 }) ∧
    (busRead s 0xFF42#16 = s.ppu.scy ∧ busWrite s 0xFF42#16 v = s.setPpu { s.ppu with scy := v }) ∧
    (busRead s 0xFF43#16 = s.ppu.scx ∧ busWrite s 0xFF43#16 v = s.setPpu { s.ppu with scx := v }) ∧
    (busRead s 0xFF44#16 = s.ppu.ly ∧ busWrite s 0xFF44#16 v = s) ∧
    (busRead s 0xFF45#16 = s.ppu.lyc ∧ busWrite s 0xFF45#16 v = s.setPpu { s.ppu with lyc := v }) ∧
    (busRead s 0xFF47#16 = s.ppu.bgp ∧ busWrite s 0xFF47#16 v = s.setPpu { s.ppu with bgp := v }) ∧
    (busRead s 0xFF48#16 = s.ppu.obp0 ∧ busWrite s 0xFF48#16 v = s.setPpu { s.ppu with obp0 := v }) ∧
    (busRead s 0xFF49#16 = s.ppu.obp1 ∧ busWrite s 0xFF49#16 v = s.setPpu { s.ppu with obp1 := v }) ∧
    (busRead s 0xFF4A#16 = s.ppu.wy ∧ busWrite s 0xFF4A#16 v = s.setPpu { s.ppu with wy := v }) ∧
    (busRead s 0xFF4B#16 = s.ppu.wx ∧ busWrite s 0xFF4B#16 v = s.setPpu { s.ppu with wx := v })

/-- The bank registers, wherever a well-formed configuration puts them, and the plain cells: every other address of the
I/O file that no component owns and `SPU_IO_MAP` does not map (20_memory.md R87, R92, R103 to R106; the addresses of
`CFG_REF` are log 1). That the rows of R86 stand at their offsets from the first address of the I/O region in every map is
the model's choice (log 15). -/
def Obligations.BankRegistersAndPlainCells : Prop :=
  ∀ (s : State) (v : Byte), s.cfg.wellFormed = true →
    (busRead s s.cfg.ioRomb = s.bank.romBank ∧
      busWrite s s.cfg.ioRomb v = s.setBank { s.bank with romBank := v }) ∧
    (busRead s s.cfg.ioRamb = 0#4 ++ s.bank.ramBank ∧
      busWrite s s.cfg.ioRamb v = s.setBank { s.bank with ramBank := v.setWidth 4 }) ∧
    (busRead s s.cfg.ioRamg = 0#7 ++ BitVec.ofBool s.bank.ramEnable ∧
      busWrite s s.cfg.ioRamg v = s.setBank { s.bank with ramEnable := v.getLsbD 0 }) ∧
    ∀ a : Word, s.cfg.memoryMap.io.first ≤ a.toNat → a.toNat ≤ s.cfg.memoryMap.io.last →
      let o := a.toNat - s.cfg.memoryMap.io.first
      o ∉ [0x04, 0x05, 0x06, 0x07, 0x0F, 0x40, 0x41, 0x42, 0x43, 0x44, 0x45, 0x46, 0x47, 0x48, 0x49, 0x4A, 0x4B] →
      a ≠ s.cfg.ioRomb → a ≠ s.cfg.ioRamb → a ≠ s.cfg.ioRamg → (∀ r ∈ s.cfg.spuIoMap, r.addr ≠ a) →
      busRead s a = s.store.io.read o ∧
      busWrite s a v = s.setStore { s.store with io := s.store.io.write o v }

/-- The addresses of `SPU_IO_MAP` (20_memory.md R102, R113; 62_spu.md R720, R723): a write keeps the byte, then applies
the port operation of the address, its arguments assembled from the bytes kept, and changes nothing else; a read answers
a free value. A map without addresses, as in `CFG_REF`, keeps the synthesizer out of the reach of every write. The form
of the map and the assembly are the model's (log 7), and so is the free value (log 16). -/
def Obligations.MappedSpuWrites : Prop :=
  (∀ (s : State) (v : Byte) (r : SpuIoRow), s.cfg.wellFormed = true → r ∈ s.cfg.spuIoMap →
    let o := r.addr.toNat - s.cfg.memoryMap.io.first
    let latch := s.spu.latch.write o v
    let u := busWrite s r.addr v
    busRead s r.addr = Config.spuMapRead s.freeIndex o ∧
    u = { s with spu := { s.spu with cores := u.spu.cores, latch := latch }, freeIndex := u.freeIndex } ∧
    (r.op = none → u.spu.cores = s.spu.cores) ∧
    ∀ op, r.op = some op → ∀ j, u.spu.cores[j]? =
      if j = r.core then
        s.spu.cores[j]?.map fun k =>
          k.port s.cfg (SpuOpKind.apply (assemble latch r.voice) (assemble latch r.arg) op)
      else s.spu.cores[j]?) ∧
  (∀ (s : State) (a : Word) (v : Byte), s.cfg.spuIoMap = [] →
    (busWrite s a v).spu = s.spu ∧ (busWrite s a v).freeIndex = s.freeIndex) ∧
  Config.ref.spuIoMap = []

/-- The OAM transfer (20_memory.md R99): a write of `v` to `DMA` stores `v`, copies the 160 bytes the bus reads from
`v * 256` on into the sprite table, and changes nothing else. -/
def Obligations.OamTransfer : Prop :=
  ∀ (s : State) (v : Byte), s.Inv → s.cfg.memoryMap = MemoryMap.ref →
    let s0 := s.setStore { s.store with io := s.store.io.write 0x46 v }
    (∀ i, i < 160 →
      (busWrite s 0xFF46#16 v).store.oam.read i = busRead s0 (BitVec.ofNat 16 (v.toNat * 256 + i))) ∧
    busWrite s 0xFF46#16 v = s0.setStore { s0.store with oam := (busWrite s 0xFF46#16 v).store.oam } ∧
    busRead (busWrite s 0xFF46#16 v) 0xFF46#16 = v

/-! ## Interrupts -/

/-- A dispatch needs the latch, a pending bit and its enable bit, all three: otherwise the service phase changes
nothing (60_exceptions.md R511, R514). What it saves and changes where the stack is in the work RAM of `CFG_REF`'s map
(R511, R519): the two bytes of `PC` below `SP`, `SP`, the latch, the one pending bit, `PC`, the cycles; no register, no
other pending bit, not `IE`, no other byte of memory. The host lines set one pending bit each and nothing else
(R531). -/
def Obligations.DispatchSavesPc : Prop :=
  (∀ s : State, s.ime = false ∨ (∀ n, n < 5 → s.ifReg.getLsbD n = false ∨ s.ieReg.getLsbD n = false) →
    serviceInterrupts s = s) ∧
  (∀ (s : State) (n : Nat),
    s.Inv → s.cfg.memoryMap = MemoryMap.ref → 0xC002 ≤ s.regs.sp.toNat → s.regs.sp.toNat ≤ 0xE000 →
    s.ime = true → n < 5 → (s.ifReg &&& s.ieReg).getLsbD n = true →
    (∀ m, m < n → (s.ifReg &&& s.ieReg).getLsbD m = false) →
    let t := serviceInterrupts s
    busRead t (s.regs.sp - 1#16) = (s.regs.pc >>> 8).setWidth 8 ∧
    busRead t (s.regs.sp - 2#16) = s.regs.pc.setWidth 8 ∧
    t.regs = { s.regs with sp := s.regs.sp - 2#16, pc := s.cfg.intVector n } ∧
    t.ime = false ∧ t.ifReg = s.ifReg &&& ~~~(1#5 <<< n) ∧ t.ieReg = s.ieReg ∧ t.bank = s.bank ∧
    t.cycles = s.cycles + s.cfg.intDispatchCycles ∧ t.spu = s.spu ∧
    ∀ b : Word, reaches s.cfg (s.regs.sp - 1#16) b = false → reaches s.cfg (s.regs.sp - 2#16) b = false →
      b ≠ 0xFF0F#16 → busRead t b = busRead s b) ∧
  ∀ s : State,
    raiseSerial s = { s with ifReg := s.ifReg ||| 0b01000#5 } ∧
    raiseInput s = { s with ifReg := s.ifReg ||| 0b10000#5 }

/-! ## The timer -/

/-- The divider counts every cycle, one in `DIV_PERIOD`, and wraps silently, whatever else happens (60_exceptions.md
R542). The gated counter (R541, R543): stopped, it and its prescaler keep their values; running, it goes on from the
prescaler's value and moves when that has reached the period, in the next cycle where a change of rate has left it at or
above the period (R544); its overflow reloads it from `TMA` and raises pending bit 2 in the same cycle. In `CFG_REF` the divider's period is
256 and the counter's are 1024, 16, 64 and 256 (R540; 00_scope.md R6). -/
def Obligations.TimerCounts : Prop :=
  (∀ (n : Nat) (s : State), s.timer.divSub < s.cfg.divPeriod →
    (timerCycle^[n] s).timer.divSub = (s.timer.divSub + n) % s.cfg.divPeriod ∧
    (timerCycle^[n] s).timer.div.toNat = (s.timer.div.toNat + (s.timer.divSub + n) / s.cfg.divPeriod) % 256) ∧
  (∀ (n : Nat) (s : State), s.timer.tac.getLsbD 2 = false →
    (timerCycle^[n] s).timer.tima = s.timer.tima ∧ (timerCycle^[n] s).timer.timaSub = s.timer.timaSub ∧
    (timerCycle^[n] s).ifReg = s.ifReg) ∧
  (∀ (n : Nat) (s : State), s.cfg.wellFormed = true → s.timer.tac.getLsbD 2 = true →
    let period := s.cfg.timaPeriods.getD (s.timer.tac.toNat % 4) 0
    let left := if s.timer.timaSub < period then period - s.timer.timaSub else 1
    (n < left →
      (timerCycle^[n] s).timer.tima = s.timer.tima ∧ (timerCycle^[n] s).timer.timaSub = s.timer.timaSub + n ∧
      (timerCycle^[n] s).ifReg = s.ifReg) ∧
    (n = left →
      (timerCycle^[n] s).timer.timaSub = 0 ∧
      (s.timer.tima ≠ 0xFF#8 →
        (timerCycle^[n] s).timer.tima = s.timer.tima + 1#8 ∧ (timerCycle^[n] s).ifReg = s.ifReg) ∧
      (s.timer.tima = 0xFF#8 →
        (timerCycle^[n] s).timer.tima = s.timer.tma ∧ (timerCycle^[n] s).ifReg = s.ifReg ||| 0b00100#5))) ∧
  Config.ref.divPeriod = 256 ∧ Config.ref.timaPeriods = [1024, 16, 64, 256]

/-! ## The pixel pipeline -/

/-- The schedule of a visible line (61_ppu.md R608, from any visible scanline): 80 cycles of OAM_SCAN, 172 of
PIXEL_TRANSFER, whose last renders the row, 204 of HBLANK, then the next line. On such a line pending bit 0 is set only
by the cycle that ends HBLANK of scanline 143, which enters VBLANK (R606). -/
def Obligations.VisibleLineSchedule : Prop :=
  ∀ (k : Nat) (s : State), s.ppu.lcdc.getLsbD 7 = true → s.ppu.mode = .oamScan → s.ppu.dot = 0 →
    s.ppu.ly.toNat ≤ 143 →
    (k < 80 → (ppuCycle^[k] s).ppu.mode = .oamScan ∧ (ppuCycle^[k] s).ppu.dot = k) ∧
    (80 ≤ k → k < 252 → (ppuCycle^[k] s).ppu.mode = .pixelTransfer ∧ (ppuCycle^[k] s).ppu.dot = k - 80) ∧
    (252 ≤ k → k < 456 → (ppuCycle^[k] s).ppu.mode = .hblank ∧ (ppuCycle^[k] s).ppu.dot = k - 252) ∧
    (k < 252 → (ppuCycle^[k] s).ppu.fb = s.ppu.fb) ∧
    (252 ≤ k → k ≤ 456 →
      (ppuCycle^[k] s).ppu.fb = (renderScanline s.cfg s.ppu s.store.vram s.store.oam s.ppu.ly.toNat).fb) ∧
    (k < 456 → (ppuCycle^[k] s).ppu.ly = s.ppu.ly ∧ (ppuCycle^[k] s).ifReg.getLsbD 0 = s.ifReg.getLsbD 0) ∧
    (k = 456 → (ppuCycle^[k] s).ppu.mode = (if s.ppu.ly = 143#8 then .vblank else .oamScan) ∧
      (ppuCycle^[k] s).ppu.dot = 0 ∧ (ppuCycle^[k] s).ppu.ly = s.ppu.ly + 1#8 ∧
      (ppuCycle^[k] s).ifReg.getLsbD 0 = (s.ifReg.getLsbD 0 || decide (s.ppu.ly = 143#8)))

/-- The schedule of a VBLANK line, of `LINE_CYCLES` cycles, 456 in `CFG_REF` by the spec's decision D23 (61_ppu.md R603,
R605): the tenth ends the frame, at scanline 0 in OAM_SCAN. Pending bit 0 is not touched (R606).
That `LINE_CYCLES` is the budget of these lines alone is the model's choice (log 18). -/
def Obligations.VblankLineSchedule : Prop :=
  (∀ (k : Nat) (s : State), s.ppu.lcdc.getLsbD 7 = true → s.ppu.mode = .vblank → s.ppu.dot = 0 →
    144 ≤ s.ppu.ly.toNat → s.ppu.ly.toNat ≤ 153 → 1 ≤ s.cfg.lineCycles →
    (k ≤ s.cfg.lineCycles → (ppuCycle^[k] s).ifReg.getLsbD 0 = s.ifReg.getLsbD 0) ∧
    (k < s.cfg.lineCycles → (ppuCycle^[k] s).ppu.mode = .vblank ∧ (ppuCycle^[k] s).ppu.dot = k ∧
      (ppuCycle^[k] s).ppu.ly = s.ppu.ly) ∧
    (k = s.cfg.lineCycles → (ppuCycle^[k] s).ppu.dot = 0 ∧
      (s.ppu.ly = 153#8 → (ppuCycle^[k] s).ppu.mode = .oamScan ∧ (ppuCycle^[k] s).ppu.ly = 0#8) ∧
      (s.ppu.ly ≠ 153#8 → (ppuCycle^[k] s).ppu.mode = .vblank ∧ (ppuCycle^[k] s).ppu.ly = s.ppu.ly + 1#8))) ∧
  Config.ref.lineCycles = 456

/-- The sources of the LCD-stat bit, pending bit 1 (61_ppu.md R610, R611): a cycle of the pipeline sets it exactly where
it enters HBLANK, VBLANK or OAM_SCAN with `STAT[3]`, `STAT[4]` or `STAT[5]` set, or changes `LY` to `LYC` with `STAT[6]`
set. It sets bit 0 exactly where it enters VBLANK (R606), and no other bit. It clears none. That with `LYC` above 153 the
comparison source fires where a load has let `LY` pass 153 is the model's choice (log 11); R611 says it never fires. -/
def Obligations.StatSources : Prop :=
  ∀ s : State, s.ppu.lcdc.getLsbD 7 = true →
    let t := ppuCycle s
    let enters (m : PpuMode) : Bool := decide (t.ppu.mode = m) && decide (s.ppu.mode ≠ m)
    t.ifReg.getLsbD 1 =
      (s.ifReg.getLsbD 1 || (enters .hblank && s.ppu.stat.getLsbD 0) || (enters .vblank && s.ppu.stat.getLsbD 1) ||
        (enters .oamScan && s.ppu.stat.getLsbD 2) ||
        (decide (t.ppu.ly ≠ s.ppu.ly) && decide (t.ppu.ly = s.ppu.lyc) && s.ppu.stat.getLsbD 3)) ∧
    t.ifReg.getLsbD 0 = (s.ifReg.getLsbD 0 || enters .vblank) ∧
    ∀ n, 2 ≤ n → t.ifReg.getLsbD n = s.ifReg.getLsbD n

/-- The end of PIXEL_TRANSFER writes the `FB_WIDTH` cells of row `LY`, 160 in `CFG_REF`, and no other, from the layers
(61_ppu.md R601, R620). A disabled pipeline does nothing (R640). Without sprites a pixel is the shade (R626) of the
window's tile where the window covers it (R622), else of the background's (R621), else of colour 0; a tile's colour is
the two bits of its row (R627, R628).
Another `FB_WIDTH`, and a window column past 255, are the model's choice (log 18). -/
def Obligations.RendersOneRow : Prop :=
  (∀ (s : State) (y x : Nat), s.ppu.lcdc.getLsbD 7 = true → s.ppu.mode = .pixelTransfer → s.ppu.dot = 171 →
    s.ppu.ly.toNat ≤ 143 → x < s.cfg.fbWidth →
    (ppuCycle s).ppu.fb.read (y * s.cfg.fbWidth + x) =
      if y = s.ppu.ly.toNat then
        linePixel s.ppu s.store.vram s.store.oam (selectSprites s.cfg s.ppu s.store.oam y) y x
      else s.ppu.fb.read (y * s.cfg.fbWidth + x)) ∧
  Config.ref.fbWidth = 160 ∧
  (∀ s : State, s.ppu.lcdc.getLsbD 7 = false → ppuCycle s = s) ∧
  (∀ (p : Ppu) (vram oam : Memory) (sel : List Nat) (y x : Nat), p.lcdc.getLsbD 1 = false →
    (p.lcdc.getLsbD 5 = true ∧ p.wy.toNat ≤ y ∧ p.wx.toNat ≤ x + 7 →
      (linePixel p vram oam sel y x).toNat =
        p.bgp.toNat / 4 ^ (tilePixel p vram (p.lcdc.getLsbD 6) (x + 7 - p.wx.toNat) (y - p.wy.toNat)).toNat % 4) ∧
    (¬(p.lcdc.getLsbD 5 = true ∧ p.wy.toNat ≤ y ∧ p.wx.toNat ≤ x + 7) →
      (p.lcdc.getLsbD 0 = false → (linePixel p vram oam sel y x).toNat = p.bgp.toNat % 4) ∧
      (p.lcdc.getLsbD 0 = true →
        (linePixel p vram oam sel y x).toNat =
          p.bgp.toNat / 4 ^ (tilePixel p vram (p.lcdc.getLsbD 3) ((x + p.scx.toNat) % 256)
            ((y + p.scy.toNat) % 256)).toNat % 4))) ∧
  ∀ (p : Ppu) (vram : Memory) (mapSel : Bool) (px py : Nat),
    let tile : Byte := vram.read ((if mapSel then 0x1C00 else 0x1800) + py / 8 * 32 + px / 8)
    let data : Int := if p.lcdc.getLsbD 4 then 16 * (tile.toNat : Int) else 0x1000 + 16 * tile.toInt
    ∃ d : Nat, (d : Int) = data + 2 * (py % 8 : Nat) ∧
      (tilePixel p vram mapSel px py).toNat =
        2 * ((vram.read (d + 1)).toNat / 2 ^ (7 - px % 8) % 2) + (vram.read d).toNat / 2 ^ (7 - px % 8) % 2

/-- Sprite selection (61_ppu.md R623): at most `SPRITES_PER_LINE`, ten in `CFG_REF`, in table order, each touching the
line; a sprite that touches the line is left out only when that many are selected. A sprite's pixel (R624): colour 0
outside its eight columns, else the two bits of its tile's row, flipped as its attributes say, tile bit 0 ignored when
sprites are 16 high. Priority (R625): the first selected sprite that is opaque at a column decides, and hides behind a
non-zero colour under it where its priority bit is set.
Entries from 40 on, where `OAM_ENTRIES` is larger, are the model's choice (log 18). -/
def Obligations.SpriteSelection : Prop :=
  (∀ (c : Config) (p : Ppu) (oam : Memory) (ly : Nat),
    (selectSprites c p oam ly).length ≤ c.spritesPerLine ∧ (selectSprites c p oam ly).Pairwise (· < ·) ∧
    (∀ i ∈ selectSprites c p oam ly, i < c.oamEntries ∧ (oam.read (4 * i)).toNat ≤ ly + 16 ∧
      ly + 16 < (oam.read (4 * i)).toNat + (if p.lcdc.getLsbD 2 then 16 else 8)) ∧
    ∀ i, i < c.oamEntries → (oam.read (4 * i)).toNat ≤ ly + 16 →
      ly + 16 < (oam.read (4 * i)).toNat + (if p.lcdc.getLsbD 2 then 16 else 8) →
      i ∈ selectSprites c p oam ly ∨
        ((selectSprites c p oam ly).length = c.spritesPerLine ∧ ∀ j ∈ selectSprites c p oam ly, j < i)) ∧
  Config.ref.spritesPerLine = 10 ∧ Config.ref.oamEntries = 40 ∧
  (∀ (p : Ppu) (vram oam : Memory) (i x ly : Nat),
    let left := (oam.read (4 * i + 1)).toNat
    (x + 8 < left ∨ left ≤ x → spritePixel p vram oam i x ly = 0#2) ∧
    (left ≤ x + 8 → x < left → (oam.read (4 * i)).toNat ≤ ly + 16 →
      ly + 16 < (oam.read (4 * i)).toNat + (if p.lcdc.getLsbD 2 then 16 else 8) →
      let attr := oam.read (4 * i + 3)
      let tile := (oam.read (4 * i + 2)).toNat
      let cy := ly + 16 - (oam.read (4 * i)).toNat
      let row := if attr.getLsbD 6 then (if p.lcdc.getLsbD 2 then 15 else 7) - cy else cy
      let bit := if attr.getLsbD 5 then x + 8 - left else 7 - (x + 8 - left)
      let d := 16 * (if p.lcdc.getLsbD 2 then tile - tile % 2 else tile) + 2 * row
      (spritePixel p vram oam i x ly).toNat =
        2 * ((vram.read (d + 1)).toNat / 2 ^ bit % 2) + (vram.read d).toNat / 2 ^ bit % 2)) ∧
  ∀ (p : Ppu) (vram oam : Memory) (before after : List Nat) (i y x : Nat), p.lcdc.getLsbD 1 = true →
    (∀ j ∈ before, spritePixel p vram oam j x y = 0#2) →
    (linePixel p vram oam before y x = shade p.bgp (underPixel p vram x y)) ∧
    (spritePixel p vram oam i x y ≠ 0#2 →
      linePixel p vram oam (before ++ i :: after) y x =
        if (oam.read (4 * i + 3)).getLsbD 7 ∧ underPixel p vram x y ≠ 0#2 then
          shade p.bgp (underPixel p vram x y)
        else
          shade (if (oam.read (4 * i + 3)).getLsbD 4 then p.obp1 else p.obp0) (spritePixel p vram oam i x y))

/-! ## The synthesizer -/

/-- The envelope. One step of a keyed voice from any amplitude (62_spu.md R710): attack adds `ENV_STEP(attack)` up to
`ENV_MAX`, release takes off `ENV_STEP(release)` down to 0, and both latches clear exactly where a release reaches 0;
volume, pitch and the four rates are kept. Decay and sustain have no effect on a step (R711). In `CFG_REF` (R719): after `k` steps of attack from 0 it is `min(0x7FFF, k * (R + 1))`, full exactly from
step `ceil(32767 / (R + 1))` on; after `k` steps of release from full it is `max(0, 0x7FFF - k * (R + 1))`, and the
voice is idle exactly from that step on. The premises of that part are the full scale and the law of `CFG_REF` (R701). -/
def Obligations.EnvelopeSchedule : Prop :=
  (∀ (c : Config) (v : Voice) (sram : Cells 16), v.keyOn = true →
    let u := (v.step c sram).1
    u = { v with env := u.env, keyOn := u.keyOn, keyOff := u.keyOff, pos := u.pos } ∧
    (v.keyOff = false →
      u.env = min c.envMax (v.env + c.envStep v.attack.toNat) ∧ u.keyOn = true ∧ u.keyOff = false) ∧
    (v.keyOff = true →
      (u.env : Int) = max 0 ((v.env : Int) - c.envStep v.release.toNat) ∧
      (u.keyOn = false ↔ u.env = 0) ∧ (u.keyOff = false ↔ u.env = 0))) ∧
  (∀ (c : Config) (v : Voice) (sram : Cells 16) (decay sustain : BitVec 16),
    ({ v with decay := decay, sustain := sustain } : Voice).step c sram =
      ({ (v.step c sram).1 with decay := decay, sustain := sustain }, (v.step c sram).2)) ∧
  (Config.ref.envMax = 0x7FFF ∧ ∀ r, Config.ref.envStep r = r + 1) ∧
  ∀ (c : Config) (k : Nat) (v : Voice) (sram : Cells 16), c.envMax = 0x7FFF → (∀ r, c.envStep r = r + 1) →
    v.keyOn = true →
    let after := (fun u : Voice => (u.step c sram).1)^[k] v
    (v.keyOff = false → v.env = 0 →
      after.env = min 0x7FFF (k * (v.attack.toNat + 1)) ∧
      (after.env = 0x7FFF ↔ (0x7FFF + v.attack.toNat) / (v.attack.toNat + 1) ≤ k)) ∧
    (v.keyOff = true → v.env = 0x7FFF →
      after.env = 0x7FFF - k * (v.release.toNat + 1) ∧
      (after.keyOn = false ↔ (0x7FFF + v.release.toNat) / (v.release.toNat + 1) ≤ k) ∧
      (after.keyOff = false ↔ after.keyOn = false))

/-- One step of the synthesizer. An idle voice is untouched and silent (62_spu.md R702); a keyed voice gives its sample
scaled by the envelope just updated, then by the low 15 bits of its volume, both rounded down (R712), and moves on by
its pitch (R714). A core's frame is the saturated sum of its voices, plus, with reverb, the delayed frame attenuated;
the frame then enters the delay line (R715, R716). The IRQ flag is set where the transfer address is the trigger address
(R718), and with it the pending bit the configuration names. That `PITCH_ONE` takes the place of the 4096 of R712 and
R714 in every configuration is the model's choice (log 18). A step of any machine appends one frame of two samples
(R700, R716): the saturated sums of its cores' frames (R725), the frame of its core where it has one core. -/
def Obligations.SpuFrames : Prop :=
  (∀ (c : Config) (v : Voice) (sram : Cells 16),
    (v.keyOn = false → v.step c sram = (v, 0)) ∧
    (v.keyOn = true →
      (v.step c sram).2 =
        (sram.read (v.pos / c.pitchOne)).toInt * (v.step c sram).1.env / 32768 * (v.volume.toNat % 32768 : Nat)
          / 32768 ∧
      (v.step c sram).1.pos = (v.pos + v.pitch.toNat) % (c.sramSamples * c.pitchOne))) ∧
  (∀ (c : Config) (k : SpuCore),
    let sum := (k.voices.map fun v => (v.step c k.sram).2).sum
    let sat (a : Int) : Int := max (-32768) (min 32767 a)
    let left := if k.reverbEnable then sum + (k.rvbL.read k.rvbIdx).toInt * c.reverbGain / 32768 else sum
    let right := if k.reverbEnable then sum + (k.rvbR.read k.rvbIdx).toInt * c.reverbGain / 32768 else sum
    (k.step c).2 = (sat left, sat right) ∧
    (k.step c).1 = { k with
      voices := k.voices.map fun v => (v.step c k.sram).1
      irqFlag := k.irqFlag || (k.irqEnable && decide (k.xferAddr = k.irqAddr))
      rvbL := if k.reverbEnable then k.rvbL.write k.rvbIdx (BitVec.ofInt 16 (sat left)) else k.rvbL
      rvbR := if k.reverbEnable then k.rvbR.write k.rvbIdx (BitVec.ofInt 16 (sat right)) else k.rvbR
      rvbIdx := if k.reverbEnable then (k.rvbIdx + 1) % c.reverbDelay else k.rvbIdx }) ∧
  (∀ s : State,
    let sat (a : Int) : Int := max (-32768) (min 32767 a)
    (spuStep s).spu.outbuf = s.spu.outbuf ++
      [BitVec.ofInt 16 (sat (s.spu.cores.map fun k => (k.step s.cfg).2.1).sum),
        BitVec.ofInt 16 (sat (s.spu.cores.map fun k => (k.step s.cfg).2.2).sum)] ∧
    (spuStep s).spu.cores = s.spu.cores.map (fun k => (k.step s.cfg).1) ∧
    (s.cfg.spuIrqLine = none → (spuStep s).ifReg = s.ifReg) ∧
    ∀ n, s.cfg.spuIrqLine = some n → ∀ m, (spuStep s).ifReg.getLsbD m =
      (s.ifReg.getLsbD m || (decide (m = n.val) &&
        s.spu.cores.any fun k => k.irqEnable && decide (k.xferAddr = k.irqAddr)))) ∧
  (∀ (s : State) (k : SpuCore), s.spu.cores = [k] →
    (spuStep s).spu.outbuf =
      s.spu.outbuf ++ [BitVec.ofInt 16 (k.step s.cfg).2.1, BitVec.ofInt 16 (k.step s.cfg).2.2]) ∧
  ∀ (s : State) (k : SpuCore), s.spu.cores = [k] → k.reverbEnable = false → (∀ v ∈ k.voices, v.keyOn = false) →
    (spuStep s).spu.outbuf = s.spu.outbuf ++ [0#16, 0#16]

/-- The fourteen port operations (62_spu.md R720 to R722). An operation on a voice changes that voice as the table says,
no other voice and no other field of the core; on a voice that does not exist it changes nothing. The others change the
fields of the core they name. A port operation of a machine changes the core named and no other, and nothing where there is
no such core: the model's choice (log 17), and so is `PITCH_ONE` in the place of the 4096 of R720 (log 18). -/
def Obligations.SpuPortOperations : Prop :=
  (∀ (c : Config) (k : SpuCore) (v : Nat) (w : BitVec 16) (a : Nat),
    ∀ r ∈ ([(.setVolume v w, fun x => { x with volume := w }), (.setPitch v w, fun x => { x with pitch := w }),
        (.setAttack v w, fun x => { x with attack := w }), (.setDecay v w, fun x => { x with decay := w }),
        (.setSustain v w, fun x => { x with sustain := w }), (.setRelease v w, fun x => { x with release := w }),
        (.setVoiceAddr v a, fun x => { x with pos := a % c.sramSamples * c.pitchOne }),
        (.keyOn v, fun x => { x with keyOn := true, keyOff := false, env := 0 }),
        (.keyOff v, fun x => { x with keyOff := x.keyOff || x.keyOn })] : List (SpuOp × (Voice → Voice))),
      (∀ j, (k.port c r.1).voices[j]? = if j = v then k.voices[j]?.map r.2 else k.voices[j]?) ∧
      k.port c r.1 = { k with voices := (k.port c r.1).voices } ∧
      (k.voices.length ≤ v → k.port c r.1 = k)) ∧
  (∀ (c : Config) (k : SpuCore) (w : BitVec 16) (a : Nat) (r q : Bool),
    k.port c (.setControl r q) = { k with reverbEnable := r, irqEnable := q } ∧
    k.port c (.setIrqAddr a) = { k with irqAddr := a % c.sramSamples } ∧
    k.port c (.setXferAddr a) = { k with xferAddr := a % c.sramSamples } ∧
    k.port c .ackIrq = { k with irqFlag := false } ∧
    k.port c (.writeData w) =
      { k with sram := (k.port c (.writeData w)).sram, xferAddr := (k.xferAddr + 1) % c.sramSamples } ∧
    (Cells.wf k.sram → ∀ i,
      (k.port c (.writeData w)).sram.read i = if i = k.xferAddr then w else k.sram.read i)) ∧
  (∀ (s : State) (n : Nat) (op : SpuOp),
    (∀ j, (spuPort n op s).spu.cores[j]? =
      if j = n then s.spu.cores[j]?.map (fun k => k.port s.cfg op) else s.spu.cores[j]?) ∧
    spuPort n op s = { s with
      spu := { s.spu with cores := (spuPort n op s).spu.cores }, freeIndex := (spuPort n op s).freeIndex }) ∧
  Config.ref.sramSamples = 262144 ∧ Config.ref.pitchOne = 4096

/-! ## The host -/

/-- Loading is all or nothing. `LoadRom` takes 2 to 256 whole banks that `ROM_VALID` accepts and shows their bytes in the
ROM windows (70_reset_and_hazards.md R834); `ROM_VALID` is an argument, and that of `CFG_REF` accepts every image (log 7).
`LoadState` refuses a blob that is not of `BLOB_SIZE` bytes, and takes exactly those R839 describes: one-bit fields of 0 or
1, `F[3:0] = 0`, and the RAM bank, the mode, its counter, `LY`, the prescalers, the SPU's addresses, `pos` and `env` in
their ranges, with the ROM windows the loaded image shows; the bounds are those of the configuration (log 18).
`SaveState` of a legal machine of one core gives exactly `BLOB_SIZE`, 590448 in `CFG_REF` (R838; log 8). -/
def Obligations.HostLoads : Prop :=
  (∀ (valid : List Byte → Bool) (bytes : List Byte) (s : State),
    ((loadRom valid bytes s).1 = true ↔
      0x8000 ≤ bytes.length ∧ bytes.length % 0x4000 = 0 ∧ bytes.length ≤ 256 * 0x4000 ∧ valid bytes = true) ∧
    ((loadRom valid bytes s).1 = false → (loadRom valid bytes s).2 = s) ∧
    ((loadRom valid bytes s).1 = true →
      (loadRom valid bytes s).2.store.romBanks = bytes.length / 0x4000 ∧
      (s.cfg.memoryMap = MemoryMap.ref →
        (∀ a : Word, a.toNat ≤ 0x3FFF → busRead (loadRom valid bytes s).2 a = bytes.getD a.toNat 0#8) ∧
        (∀ a : Word, 0x4000 ≤ a.toNat → a.toNat ≤ 0x7FFF →
          busRead (loadRom valid bytes s).2 a =
            bytes.getD ((s.bank.romBank.toNat % (bytes.length / 0x4000)) * 0x4000 + (a.toNat - 0x4000)) 0#8)) ∧
      (loadRom valid bytes s).2 =
        s.setStore { s.store with
          romBanks := (loadRom valid bytes s).2.store.romBanks, rom := (loadRom valid bytes s).2.store.rom })) ∧
  (∀ bytes : List Byte, romValidRef bytes = true) ∧
  (∀ (bytes : List Byte) (s : State),
    ((loadState bytes s).1 = false → (loadState bytes s).2 = s) ∧
    (bytes.length ≠ blobSize s.cfg → (loadState bytes s).1 = false) ∧
    (s.Inv → s.cfg.nSpuCores = 1 → (saveState s).length = blobSize s.cfg)) ∧
  (∀ (bytes : List Byte) (s : State), s.cfg.memoryMap = MemoryMap.ref →
    let at1 (i : Nat) : Nat := (bytes.getD i 0#8).toNat
    let at2 (i : Nat) : Nat := at1 i + 256 * at1 (i + 1)
    let at4 (i : Nat) : Nat := at2 i + 65536 * at2 (i + 2)
    let dots : Nat := if at1 65560 = 0 then 204 else if at1 65560 = 1 then s.cfg.lineCycles
      else if at1 65560 = 2 then 80 else 172
    ((loadState bytes s).1 = true ↔
      bytes.length = 65584 + 24 * s.cfg.nVoices + 2 * s.cfg.sramSamples ∧
      (∀ i ∈ [65548, 65549, 65550, 65553, 65568, 65569, 65570], at1 i ≤ 1) ∧
      at1 65537 % 16 = 0 ∧ at1 65552 ≤ 15 ∧ at2 65554 < s.cfg.divPeriod ∧ at2 65556 < s.cfg.timaSubRange ∧
      at1 65560 ≤ 3 ∧ at2 65561 < dots ∧ at1 65563 ≤ 153 ∧
      (143 < at1 65563 → at1 65560 = 0 ∨ at1 65560 = 1) ∧ (at1 65563 < 144 → at1 65560 ≠ 1) ∧
      at4 65572 < s.cfg.sramSamples ∧ at4 65576 < s.cfg.sramSamples ∧
      (∀ v, v < s.cfg.nVoices →
        at4 (65584 + 24 * v + 12) < s.cfg.sramSamples * s.cfg.pitchOne ∧
        at2 (65584 + 24 * v + 16) ≤ s.cfg.envMax ∧
        at1 (65584 + 24 * v + 18) ≤ 1 ∧ at1 (65584 + 24 * v + 19) ≤ 1) ∧
      ∀ a : Word, a.toNat ≤ 0x7FFF → bytes.getD a.toNat 0#8 =
        busRead { s with bank := { s.bank with romBank := bytes.getD 65551 0#8 } } a)) ∧
  (Config.ref.divPeriod = 256 ∧ Config.ref.timaSubRange = 1024 ∧ Config.ref.lineCycles = 456 ∧
    Config.ref.sramSamples * Config.ref.pitchOne = 262144 * 4096 ∧ Config.ref.envMax = 0x7FFF) ∧
  blobSize Config.ref = 590448

/-- What a successful `LoadState` assigns and what it keeps, and the round trip (70_reset_and_hazards.md R838, R839). The
records of the loaded machine are those of the blob (reserved bytes aside, and `ei_pending` where the configuration has
no such latch, log 9), its RAM is the blob's image; the configuration, the ROM and the other `ERAM` banks are kept; what
the blob does not carry takes its reset value. "`save(state)` followed by `load(state)` on a fresh instance reproduces
bit-identical memory image, registers, and SPU sample RAM", the fresh instance having the same configuration and ROM.
The map is that of `CFG_REF`; a blob carries the one core (log 8); an address mapped to the SPU reads a free value
(log 16).
The offsets of the parts for another number of voices or samples are the model's choice (log 18). -/
def Obligations.LoadRestores : Prop :=
  (∀ (bytes : List Byte) (s : State), s.cfg.memoryMap = MemoryMap.ref → (loadState bytes s).1 = true →
    let u := (loadState bytes s).2
    (∀ i, i < 22 → i ≠ 14 ∨ s.cfg.eiDelay = true → (registerRecord u)[i]? = bytes[65536 + i]?) ∧
    (∀ i, i < 4 → (ppuRecord u)[i]? = bytes[65560 + i]?) ∧
    (∀ i, i < 12 → i ≠ 3 → (spuGlobals (blobCore u))[i]? = bytes[65568 + i]?) ∧
    (∀ v i, v < s.cfg.nVoices → i < 20 →
      ((blobCore u).voices[v]?.bind fun x => (voiceRecord x)[i]?) = bytes[65584 + 24 * v + i]?) ∧
    (∀ i, i < s.cfg.sramSamples → (blobCore u).sram.read i =
      bytes.getD (65584 + 24 * s.cfg.nVoices + 2 * i + 1) 0#8 ++ bytes.getD (65584 + 24 * s.cfg.nVoices + 2 * i) 0#8) ∧
    (∀ a : Word, (0x8000 ≤ a.toNat ∧ a.toNat ≤ 0x9FFF) ∨ (0xC000 ≤ a.toNat ∧ a.toNat ≤ 0xDFFF) ∨
      (0xFE00 ≤ a.toNat ∧ a.toNat ≤ 0xFE9F) ∨ (0xFF80 ≤ a.toNat ∧ a.toNat ≤ 0xFFFE) ∨
      (0xA000 ≤ a.toNat ∧ a.toNat ≤ 0xBFFF ∧ s.cfg.ramBanks ≠ 0) → busRead u a = bytes.getD a.toNat 0#8) ∧
    u.ieReg = (bytes.getD 0xFFFF 0#8).setWidth 5 ∧ u.ifReg = (bytes.getD 0xFF0F 0#8).setWidth 5 ∧
    u.cfg = s.cfg ∧ u.store.rom = s.store.rom ∧ u.store.romBanks = s.store.romBanks ∧
    (∀ k, (s.cfg.ramBanks = 0 ∨ k / 0x2000 ≠ u.bank.ramBank.toNat % s.cfg.ramBanks) →
      u.store.eram.read k = s.store.eram.read k) ∧
    u.ppu.fb = [] ∧ (blobCore u).rvbL = [] ∧ (blobCore u).rvbR = [] ∧ (blobCore u).rvbIdx = 0 ∧
    u.spu.phase = 0 ∧ u.spu.outbuf = [] ∧ u.events = []) ∧
  ∀ s t : State, s.Inv → s.cfg.memoryMap = MemoryMap.ref → fitsBlob s.cfg = true →
    t.cfg = s.cfg → t.store.rom = s.store.rom → t.store.romBanks = s.store.romBanks → t.spu.cores.length = 1 →
    (loadState (saveState s) t).1 = true ∧
    let u := (loadState (saveState s) t).2
    (∀ a : Word, spuMapped s.cfg a = false → busRead u a = busRead s a) ∧
    u.regs = s.regs ∧ u.ime = s.ime ∧ u.halted = s.halted ∧ u.eiPending = s.eiPending ∧ u.ifReg = s.ifReg ∧
    u.ieReg = s.ieReg ∧ u.bank = s.bank ∧ u.timer = s.timer ∧ u.ppu = { s.ppu with fb := [] } ∧
    u.spu.cores.map SpuCore.sram = s.spu.cores.map SpuCore.sram ∧
    u.spu.cores.map SpuCore.voices = s.spu.cores.map SpuCore.voices
end

