-- ==== Sys2Proof/Laws/Blob.lean ====
section
/-! SUPPORT. The blob of `SaveState` part by part: the length of each part, the byte at each offset, and what a field
reads back as (70_reset_and_hazards.md R838). -/

namespace Sys2Proof.Machine

/-! ## Lengths -/

@[simp] theorem length_leBytes (k n : Nat) : (leBytes k n).length = k := by
  induction k generalizing n with
  | zero => rfl
  | succ k ih => exact congrArg Nat.succ (ih _)

@[simp] theorem length_memoryImage (s : State) : (memoryImage s).length = 65536 := by
  unfold memoryImage
  rw [List.length_map, List.length_range]

@[simp] theorem length_registerRecord (s : State) : (registerRecord s).length = 24 := rfl
@[simp] theorem length_ppuRecord (s : State) : (ppuRecord s).length = 8 := rfl
@[simp] theorem length_spuGlobals (k : SpuCore) : (spuGlobals k).length = 16 := rfl
@[simp] theorem length_voiceRecord (v : Voice) : (voiceRecord v).length = 24 := rfl

/-- Parts of one length, joined. -/
theorem length_flatMap_const {α β : Type} {f : α → List β} {n : Nat} (hf : ∀ a, (f a).length = n) (l : List α) :
    (l.flatMap f).length = n * l.length := by
  induction l with
  | nil => rfl
  | cons a l ih => rw [List.flatMap_cons, List.length_append, hf, ih, List.length_cons, Nat.mul_succ, Nat.add_comm]

@[simp] theorem length_sampleImage (n : Nat) (k : SpuCore) : (sampleImage n k).length = 2 * n := by
  unfold sampleImage
  rw [length_flatMap_const fun _ => length_leBytes 2 _, List.length_range]

theorem length_saveState (s : State) :
    (saveState s).length = 65584 + 24 * (blobCore s).voices.length + 2 * s.cfg.sramSamples := by
  unfold saveState
  simp only [List.length_append, length_memoryImage, length_registerRecord, length_ppuRecord, length_spuGlobals,
    length_sampleImage, length_flatMap_const length_voiceRecord]

/-! ## Bytes of a joined list -/

/-- A byte of the part that starts at offset `n`. -/
theorem getD_part {α : Type} {l m r : List α} {n i : Nat} (d : α) (hn : l.length = n) (hi : i < m.length) :
    (l ++ m ++ r).getD (n + i) d = m.getD i d := by
  subst hn
  rw [List.append_assoc, List.getD_append_right _ _ _ _ (Nat.le_add_right _ _), Nat.add_sub_cancel_left,
    List.getD_append _ _ _ _ hi]

/-- A byte of the `j`-th of parts of one length. -/
theorem getD_flatMap_const {α β : Type} {f : α → List β} {n : Nat} (hf : ∀ a, (f a).length = n) (d : β) {l : List α}
    {j i : Nat} (hj : j < l.length) (hi : i < n) : (l.flatMap f).getD (n * j + i) d = (f l[j]).getD i d := by
  induction l generalizing j with
  | nil => exact absurd hj (Nat.not_lt_zero _)
  | cons a l ih =>
    rw [List.flatMap_cons]
    cases j with
    | zero =>
      rw [Nat.mul_zero, Nat.zero_add, List.getD_append _ _ _ _ (by rw [hf]; exact hi)]
      rfl
    | succ j =>
      rw [List.getD_append_right _ _ _ _ (by rw [hf, Nat.mul_succ]; omega), hf,
        show n * (j + 1) + i - n = n * j + i by rw [Nat.mul_succ]; omega]
      exact ih (Nat.lt_of_succ_lt_succ hj)

/-! ## The parts of a saved blob -/

/-- Part (a). -/
theorem saveState_image (s : State) {i : Nat} (h : i < 65536) :
    blobByte (saveState s) i = busRead s (BitVec.ofNat 16 i) := by
  unfold blobByte saveState
  simp only [List.append_assoc]
  rw [List.getD_append _ _ _ _ (by rw [length_memoryImage]; exact h)]
  unfold memoryImage
  rw [List.getD_eq_getElem _ _ (by rw [List.length_map, List.length_range]; exact h), List.getElem_map,
    List.getElem_range]

/-- Part (b1). -/
theorem saveState_registers (s : State) {i : Nat} (h : i < 24) :
    blobByte (saveState s) (65536 + i) = (registerRecord s).getD i 0#8 := by
  unfold blobByte saveState
  rw [List.append_assoc, List.append_assoc, List.append_assoc]
  exact getD_part _ (length_memoryImage s) h

/-- Part (b2). -/
theorem saveState_ppu (s : State) {i : Nat} (h : i < 8) :
    blobByte (saveState s) (65560 + i) = (ppuRecord s).getD i 0#8 := by
  unfold blobByte saveState
  rw [List.append_assoc, List.append_assoc]
  exact getD_part _ (by simp) h

/-- Part (c1). -/
theorem saveState_globals (s : State) {i : Nat} (h : i < 16) :
    blobByte (saveState s) (65568 + i) = (spuGlobals (blobCore s)).getD i 0#8 := by
  unfold blobByte saveState
  rw [List.append_assoc]
  exact getD_part _ (by simp) h

/-- Part (c2). -/
theorem saveState_voice (s : State) {v i : Nat} (hv : v < (blobCore s).voices.length) (h : i < 24) :
    blobByte (saveState s) (voiceOffset v + i) = (voiceRecord (blobCore s).voices[v]).getD i 0#8 := by
  unfold blobByte saveState voiceOffset
  rw [Nat.add_assoc, getD_part (n := 65584) _ (by simp) (by rw [length_flatMap_const length_voiceRecord]; omega)]
  exact getD_flatMap_const length_voiceRecord _ hv h

/-- Part (c3). -/
theorem saveState_sample (s : State) (hc : (blobCore s).voices.length = s.cfg.nVoices) {j i : Nat}
    (hj : j < s.cfg.sramSamples) (h : i < 2) :
    blobByte (saveState s) (sampleOffset s.cfg + 2 * j + i) =
      (leBytes 2 ((blobCore s).sram.read j).toNat).getD i 0#8 := by
  unfold blobByte saveState sampleOffset voiceOffset
  rw [Nat.add_assoc, List.getD_append_right _ _ _ _ (by simp [length_flatMap_const length_voiceRecord, hc]; omega),
    show 65584 + 24 * s.cfg.nVoices + (2 * j + i) -
        (memoryImage s ++ registerRecord s ++ ppuRecord s ++ spuGlobals (blobCore s) ++
          (blobCore s).voices.flatMap voiceRecord).length = 2 * j + i by
      simp [length_flatMap_const length_voiceRecord, hc]
      omega]
  unfold sampleImage
  rw [getD_flatMap_const (fun _ => length_leBytes 2 _) _ (by rw [List.length_range]; exact hj) h, List.getElem_range]

/-! ## Fields -/

/-- A field reads back as the number its bytes were made of. -/
theorem blobNat_leBytes {b : List Byte} {off k n : Nat} (hn : n < 256 ^ k)
    (h : ∀ i, i < k → blobByte b (off + i) = (leBytes k n).getD i 0#8) : blobNat b off k = n := by
  induction k generalizing off n with
  | zero => exact (Nat.lt_one_iff.1 hn).symm
  | succ k ih =>
    have h0 : blobByte b off = BitVec.ofNat 8 n := h 0 (Nat.succ_pos k)
    have ht : blobNat b (off + 1) k = n / 256 := by
      refine ih (by rw [Nat.pow_succ] at hn; omega) fun i hi => ?_
      have := h (i + 1) (Nat.succ_lt_succ hi)
      rw [show off + (i + 1) = off + 1 + i by omega] at this
      exact this
    unfold blobNat
    rw [h0, ht, BitVec.toNat_ofNat]
    omega

/-- A one-bit field reads back as the truth value it was made of. -/
theorem blobBit_bitByte {b : List Byte} {off : Nat} {v : Bool} (h : blobByte b off = bitByte v) :
    blobBit b off = v ∧ blobBitOk b off = true := by
  unfold blobBit blobBitOk
  rw [h]
  cases v <;> decide

end Sys2Proof.Machine
end

