-- ==== Sys2Proof/Laws/Mem.lean ====
section
/-! SUPPORT. Sparse arrays: what a read sees after a write or a fill, and that every operation keeps the canonical
form. -/

namespace Sys2Proof.Machine

namespace Cells

variable {w : Nat}

/-! ## Reading after writing -/

/-- Every index below the listed ones reads zero. -/
theorem read_eq_zero_of_lt {m : Cells w} {i : Nat} (h : ∀ c ∈ m, i < c.1) : read m i = 0#w := by
  induction m with
  | nil => rfl
  | cons c m ih =>
    have hc := h c (by simp)
    simp only [read]
    rw [if_neg (by omega)]
    exact ih fun d hd => h d (by simp [hd])

/-- An index that is not listed reads zero. -/
theorem read_eq_zero_of_ne {m : Cells w} {i : Nat} (h : ∀ c ∈ m, c.1 ≠ i) : read m i = 0#w := by
  induction m with
  | nil => rfl
  | cons c m ih =>
    simp only [read]
    rw [if_neg (h c (by simp))]
    exact ih fun d hd => h d (by simp [hd])

theorem wf_tail {c : Nat × BitVec w} {m : Cells w} (h : wf (c :: m)) : wf m :=
  ⟨(List.pairwise_cons.1 h.1).2, fun d hd => h.2 d (by simp [hd])⟩

theorem head_lt {c : Nat × BitVec w} {m : Cells w} (h : wf (c :: m)) : ∀ d ∈ m, c.1 < d.1 :=
  (List.pairwise_cons.1 h.1).1

/-- A read of the index written gives the value written. -/
theorem read_write_self {m : Cells w} (h : wf m) (i : Nat) (v : BitVec w) : read (write m i v) i = v := by
  induction m with
  | nil =>
    simp only [write]
    split <;> simp_all [read]
  | cons c m ih =>
    obtain ⟨k, x⟩ := c
    have hm := wf_tail h
    have hk := head_lt h
    simp only [write]
    split
    · split
      · simp only [read]
        rw [if_neg (by omega), read_eq_zero_of_lt fun d hd => Nat.lt_trans ‹i < k› (hk d hd)]
        exact Eq.symm ‹_›
      · simp [read]
    · split
      · split
        · subst ‹i = k›
          rw [read_eq_zero_of_lt hk]
          exact Eq.symm ‹_›
        · simp [read]
      · simp only [read]
        rw [if_neg (by omega)]
        exact ih hm

/-- A write leaves every other index alone. -/
theorem read_write_ne (m : Cells w) {i j : Nat} (h : j ≠ i) (v : BitVec w) : read (write m i v) j = read m j := by
  induction m with
  | nil =>
    simp only [write]
    split
    · rfl
    · simp [read, Ne.symm h]
  | cons c m ih =>
    obtain ⟨k, x⟩ := c
    simp only [write]
    split
    · split
      · rfl
      · simp [read, Ne.symm h]
    · split
      · subst ‹i = k›
        split <;> simp [read, Ne.symm h]
      · simp only [read, ih]

/-! ## The canonical form -/

theorem mem_write {m : Cells w} {i : Nat} {v : BitVec w} {c : Nat × BitVec w} (h : c ∈ write m i v) :
    c ∈ m ∨ (c = (i, v) ∧ v ≠ 0#w) := by
  induction m with
  | nil =>
    simp only [write] at h
    split at h
    · cases h
    · right; exact ⟨by simpa using h, ‹_›⟩
  | cons d m ih =>
    obtain ⟨k, x⟩ := d
    simp only [write] at h
    split at h
    · split at h
      · exact .inl h
      · rcases List.mem_cons.1 h with h | h
        · exact .inr ⟨h, ‹_›⟩
        · exact .inl h
    · split at h
      · split at h
        · exact .inl (by simp [h])
        · rcases List.mem_cons.1 h with h | h
          · exact .inr ⟨h, ‹_›⟩
          · exact .inl (by simp [h])
      · rcases List.mem_cons.1 h with h | h
        · exact .inl (by simp [h])
        · rcases ih h with h | h
          · exact .inl (by simp [h])
          · exact .inr h

/-- A write keeps the canonical form. -/
theorem wf_write {m : Cells w} (h : wf m) (i : Nat) (v : BitVec w) : wf (write m i v) := by
  refine ⟨?_, fun c hc => ?_⟩
  · induction m with
    | nil =>
      simp only [write]
      split <;> simp
    | cons d m ih =>
      obtain ⟨k, x⟩ := d
      have hm := wf_tail h
      have hk := head_lt h
      simp only [write]
      split
      · split
        · exact h.1
        · refine List.pairwise_cons.2 ⟨fun d hd => ?_, h.1⟩
          rcases List.mem_cons.1 hd with rfl | hd
          · assumption
          · exact Nat.lt_trans ‹i < k› (hk d hd)
      · split
        · split
          · exact hm.1
          · subst ‹i = k›
            exact List.pairwise_cons.2 ⟨hk, hm.1⟩
        · refine List.pairwise_cons.2 ⟨fun d hd => ?_, ih hm⟩
          rcases mem_write hd with hd | ⟨rfl, -⟩
          · exact hk d hd
          · show k < i
            omega
  · rcases mem_write hc with hc | ⟨rfl, hv⟩
    · exact h.2 c hc
    · exact hv

/-- A write inside the bound keeps the array inside it. -/
theorem within_write {m : Cells w} {n : Nat} (h : within m n) {i : Nat} (hi : i < n) (v : BitVec w) :
    within (write m i v) n := by
  refine ⟨wf_write h.1 i v, fun c hc => ?_⟩
  rcases mem_write hc with hc | ⟨rfl, -⟩
  · exact h.2 c hc
  · exact hi

/-- An index at or above the bound reads zero. -/
theorem read_of_within {m : Cells w} {n : Nat} (h : within m n) {i : Nat} (hi : n ≤ i) : read m i = 0#w :=
  read_eq_zero_of_ne fun c hc => by have := h.2 c hc; omega

/-! ## Filling -/

theorem mem_ofFn {base n : Nat} {f : Nat → BitVec w} {c : Nat × BitVec w} (h : c ∈ ofFn base n f) :
    ∃ j, j < n ∧ f j ≠ 0#w ∧ c = (base + j, f j) := by
  simp only [ofFn, List.mem_filterMap, List.mem_range] at h
  obtain ⟨j, hj, h⟩ := h
  split at h
  · cases h
  · exact ⟨j, hj, ‹_›, by simpa using h.symm⟩

theorem ofFn_succ (base n : Nat) (f : Nat → BitVec w) :
    ofFn base (n + 1) f = ofFn base n f ++ (if f n = 0#w then [] else [(base + n, f n)]) := by
  simp only [ofFn, List.range_succ, List.filterMap_append]
  split <;> simp [*]

theorem read_append {m k : Cells w} {i : Nat} (h : ∀ c ∈ m, c.1 ≠ i) : read (m ++ k) i = read k i := by
  induction m with
  | nil => rfl
  | cons c m ih =>
    simp only [List.cons_append, read]
    rw [if_neg (h c (by simp))]
    exact ih fun d hd => h d (by simp [hd])

theorem read_append_left {m k : Cells w} {i : Nat} (h : ∀ c ∈ k, c.1 ≠ i) : read (m ++ k) i = read m i := by
  induction m with
  | nil => exact read_eq_zero_of_ne h
  | cons c m ih => simp only [List.cons_append, read, ih]

/-- What a filled index reads. -/
theorem read_ofFn (base n : Nat) (f : Nat → BitVec w) {j : Nat} (hj : j < n) : read (ofFn base n f) (base + j) = f j := by
  induction n with
  | zero => omega
  | succ n ih =>
    rw [ofFn_succ]
    by_cases hn : j = n
    · subst hn
      rw [read_append fun c hc => by
        obtain ⟨k, hk, -, rfl⟩ := mem_ofFn hc
        show base + k ≠ base + j
        omega]
      split <;> simp_all [read]
    · rw [read_append_left fun c hc => by
        split at hc
        · cases hc
        · rcases List.mem_singleton.1 hc with rfl
          show base + n ≠ base + j
          omega]
      exact ih (by omega)

/-- A fill reads zero outside its range. -/
theorem read_ofFn_out (base n : Nat) (f : Nat → BitVec w) {i : Nat} (h : i < base ∨ base + n ≤ i) :
    read (ofFn base n f) i = 0#w :=
  read_eq_zero_of_ne fun c hc => by
    obtain ⟨j, hj, -, rfl⟩ := mem_ofFn hc
    show base + j ≠ i
    omega

theorem wf_ofFn (base n : Nat) (f : Nat → BitVec w) : wf (ofFn base n f) := by
  refine ⟨?_, fun c hc => by obtain ⟨j, -, hj, rfl⟩ := mem_ofFn hc; exact hj⟩
  induction n with
  | zero => exact List.Pairwise.nil
  | succ n ih =>
    rw [ofFn_succ]
    refine List.pairwise_append.2 ⟨ih, by split <;> simp, fun c hc d hd => ?_⟩
    obtain ⟨j, hj, -, rfl⟩ := mem_ofFn hc
    split at hd
    · cases hd
    · rcases List.mem_singleton.1 hd with rfl
      show base + j < base + n
      omega

theorem within_ofFn {base n k : Nat} (h : base + n ≤ k) (f : Nat → BitVec w) : within (ofFn base n f) k :=
  ⟨wf_ofFn base n f, fun c hc => by
    obtain ⟨j, hj, -, rfl⟩ := mem_ofFn hc
    show base + j < k
    omega⟩

theorem read_filter {m : Cells w} (p : Nat → Bool) {i : Nat} (h : p i = true) :
    read (m.filter fun c => p c.1) i = read m i := by
  induction m with
  | nil => rfl
  | cons c m ih =>
    simp only [List.filter_cons, read]
    by_cases hc : c.1 = i
    · simp [hc, h, read]
    · split
      · simp only [read, if_neg hc, ih]
      · simp only [ih]

/-- A filled range reads the values of the function. -/
theorem read_fill_in (m : Cells w) (base n : Nat) (f : Nat → BitVec w) {j : Nat} (hj : j < n) :
    read (fill m base n f) (base + j) = f j := by
  unfold fill
  rw [read_append_left fun c hc => by
    have := (List.mem_filter.1 hc).2
    simp only [decide_eq_true_eq] at this
    omega]
  rw [read_append fun c hc => by
    have := (List.mem_filter.1 hc).2
    simp only [decide_eq_true_eq] at this
    omega]
  exact read_ofFn base n f hj

/-- A fill leaves every index outside its range alone. -/
theorem read_fill_out (m : Cells w) (base n : Nat) (f : Nat → BitVec w) {i : Nat} (h : i < base ∨ base + n ≤ i) :
    read (fill m base n f) i = read m i := by
  unfold fill
  rcases h with h | h
  · rw [read_append_left fun c hc => by
      have := (List.mem_filter.1 hc).2
      simp only [decide_eq_true_eq] at this
      omega]
    rw [read_append_left fun c hc => by
      obtain ⟨j, hj, -, rfl⟩ := mem_ofFn hc
      show base + j ≠ i
      omega]
    exact read_filter (fun k => decide (k < base)) (by simpa using h)
  · rw [List.append_assoc, read_append fun c hc => by
      have := (List.mem_filter.1 hc).2
      simp only [decide_eq_true_eq] at this
      omega]
    rw [read_append fun c hc => by
      obtain ⟨j, hj, -, rfl⟩ := mem_ofFn hc
      show base + j ≠ i
      omega]
    exact read_filter (fun k => decide (base + n ≤ k)) (by simpa using h)

/-- A fill keeps the canonical form. -/
theorem wf_fill {m : Cells w} (h : wf m) (base n : Nat) (f : Nat → BitVec w) : wf (fill m base n f) := by
  unfold fill
  refine ⟨?_, fun c hc => ?_⟩
  · refine List.pairwise_append.2 ⟨List.pairwise_append.2 ⟨h.1.filter _, (wf_ofFn base n f).1, ?_⟩,
      h.1.filter _, ?_⟩
    · intro c hc d hd
      obtain ⟨j, hj, -, rfl⟩ := mem_ofFn hd
      have := (List.mem_filter.1 hc).2
      simp only [decide_eq_true_eq] at this
      show c.1 < base + j
      omega
    · intro c hc d hd
      have hd := (List.mem_filter.1 hd).2
      simp only [decide_eq_true_eq] at hd
      rcases List.mem_append.1 hc with hc | hc
      · have hc := (List.mem_filter.1 hc).2
        simp only [decide_eq_true_eq] at hc
        omega
      · obtain ⟨j, hj, -, rfl⟩ := mem_ofFn hc
        show base + j < d.1
        omega
  · rcases List.mem_append.1 hc with hc | hc
    · rcases List.mem_append.1 hc with hc | hc
      · exact h.2 c (List.mem_of_mem_filter hc)
      · exact (wf_ofFn base n f).2 c hc
    · exact h.2 c (List.mem_of_mem_filter hc)

/-- A fill inside the bound keeps the array inside it. -/
theorem within_fill {m : Cells w} {k : Nat} (h : within m k) {base n : Nat} (hn : base + n ≤ k) (f : Nat → BitVec w) :
    within (fill m base n f) k := by
  refine ⟨wf_fill h.1 base n f, fun c hc => ?_⟩
  unfold fill at hc
  rcases List.mem_append.1 hc with hc | hc
  · rcases List.mem_append.1 hc with hc | hc
    · exact h.2 c (List.mem_of_mem_filter hc)
    · obtain ⟨j, hj, -, rfl⟩ := mem_ofFn hc
      show base + j < k
      omega
  · exact h.2 c (List.mem_of_mem_filter hc)

/-- Canonical arrays that read alike are equal. -/
theorem eq_of_read_eq {m k : Cells w} (hm : wf m) (hk : wf k) (h : ∀ i, read m i = read k i) : m = k := by
  induction m generalizing k with
  | nil =>
    cases k with
    | nil => rfl
    | cons c k =>
      have := h c.1
      simp only [read, if_true] at this
      exact absurd this.symm (hk.2 c (by simp))
  | cons c m ih =>
    obtain ⟨a, x⟩ := c
    cases k with
    | nil =>
      have := h a
      simp only [read, if_true] at this
      exact absurd this (hm.2 (a, x) (by simp))
    | cons d k =>
      obtain ⟨b, y⟩ := d
      have hx : x ≠ 0#w := hm.2 (a, x) (by simp)
      have hy : y ≠ 0#w := hk.2 (b, y) (by simp)
      have hla := head_lt hm
      have hlb := head_lt hk
      have hab : a = b := by
        rcases Nat.lt_trichotomy a b with hlt | he | hlt
        · have := h a
          rw [read_eq_zero_of_lt (m := (b, y) :: k) fun c hc => by
            rcases List.mem_cons.1 hc with rfl | hc
            · exact hlt
            · exact Nat.lt_trans hlt (hlb c hc)] at this
          simp only [read, if_true] at this
          exact absurd this hx
        · exact he
        · have := h b
          rw [read_eq_zero_of_lt (m := (a, x) :: m) fun c hc => by
            rcases List.mem_cons.1 hc with rfl | hc
            · exact hlt
            · exact Nat.lt_trans hlt (hla c hc)] at this
          simp only [read, if_true] at this
          exact absurd this.symm hy
      subst hab
      have hxy : x = y := by simpa [read] using h a
      subst hxy
      congr 1
      refine ih (wf_tail hm) (wf_tail hk) fun i => ?_
      by_cases hi : a = i
      · subst hi
        rw [read_eq_zero_of_lt hla, read_eq_zero_of_lt hlb]
      · simpa [read, hi] using h i

end Cells

namespace Memory

theorem read_write_self {m : Memory} (h : m.wf) (i : Nat) (v : Byte) : (m.write i v).read i = v :=
  Cells.read_write_self h i v

theorem read_write_ne (m : Memory) {i j : Nat} (h : j ≠ i) (v : Byte) : (m.write i v).read j = m.read j :=
  Cells.read_write_ne m h v

theorem wf_write {m : Memory} (h : m.wf) (i : Nat) (v : Byte) : (m.write i v).wf := Cells.wf_write h i v

theorem wf_nil : Memory.wf [] := ⟨List.Pairwise.nil, fun _ h => nomatch h⟩

end Memory

/-! ## The banks of the work RAM -/

/-- What a write of the work RAM leaves in each bank. -/
theorem Store.getElem?_writeWram (st : Store) (b i : Nat) (v : Byte) (c : Nat) :
    (st.writeWram b i v).wram[c]? = if b = c then st.wram[c]?.map (fun m => m.write i v) else st.wram[c]? := by
  unfold Store.writeWram
  rw [List.getElem?_modify]
  split
  · rfl
  · cases st.wram[c]? <;> rfl

/-- A read of the byte written gives the value written, in a bank there is. -/
theorem Store.readWram_writeWram_self {st : Store} {b : Nat} (hb : b < st.wram.length) (hw : ∀ m ∈ st.wram, Memory.wf m)
    (i : Nat) (v : Byte) : (st.writeWram b i v).readWram b i = v := by
  unfold Store.readWram
  rw [List.getD_eq_getElem?_getD, Store.getElem?_writeWram, if_pos rfl, List.getElem?_eq_getElem hb]
  exact Cells.read_write_self (hw _ (List.getElem_mem hb)) i v

/-- A write leaves every other byte of the work RAM alone. -/
theorem Store.readWram_writeWram_ne (st : Store) {b c i j : Nat} (h : c ≠ b ∨ j ≠ i) (v : Byte) :
    (st.writeWram b i v).readWram c j = st.readWram c j := by
  unfold Store.readWram
  rw [List.getD_eq_getElem?_getD, List.getD_eq_getElem?_getD, Store.getElem?_writeWram]
  split
  · next hb =>
    have hj := h.resolve_left fun hc => hc hb.symm
    cases st.wram[c]? with
    | none => rfl
    | some m => exact Cells.read_write_ne m hj v
  · rfl

@[simp] theorem Store.length_writeWram (st : Store) (b i : Nat) (v : Byte) :
    (st.writeWram b i v).wram.length = st.wram.length := List.length_modify ..

/-- A write keeps every bank canonical and inside its size. -/
theorem Store.within_writeWram {st : Store} {n : Nat} (h : ∀ m ∈ st.wram, Cells.within m n) (b : Nat) {i : Nat}
    (hi : i < n) (v : Byte) : ∀ m ∈ (st.writeWram b i v).wram, Cells.within m n := by
  intro m hm
  obtain ⟨c, hc⟩ := List.mem_iff_getElem?.1 hm
  rw [Store.getElem?_writeWram] at hc
  split at hc
  · obtain ⟨k, hk, rfl⟩ := Option.map_eq_some_iff.1 hc
    exact Cells.within_write (h k (List.mem_of_getElem? hk)) hi v
  · exact h m (List.mem_of_getElem? hc)

end Sys2Proof.Machine
end

