-- ==== Sys2Proof/Laws/State.lean ====
section
/-! SUPPORT. One lemma per field per update of the state: what each named update leaves alone and what it writes.
All are `rfl`, after a case split where the update picks a register. -/

namespace Sys2Proof.Machine

namespace State

@[simp] theorem setRegs_cfg (s : State) (v : Regs) : (s.setRegs v).cfg = s.cfg := rfl
@[simp] theorem setRegs_regs (s : State) (v : Regs) : (s.setRegs v).regs = v := rfl
@[simp] theorem setRegs_ime (s : State) (v : Regs) : (s.setRegs v).ime = s.ime := rfl
@[simp] theorem setRegs_halted (s : State) (v : Regs) : (s.setRegs v).halted = s.halted := rfl
@[simp] theorem setRegs_eiPending (s : State) (v : Regs) : (s.setRegs v).eiPending = s.eiPending := rfl
@[simp] theorem setRegs_ifReg (s : State) (v : Regs) : (s.setRegs v).ifReg = s.ifReg := rfl
@[simp] theorem setRegs_ieReg (s : State) (v : Regs) : (s.setRegs v).ieReg = s.ieReg := rfl
@[simp] theorem setRegs_bank (s : State) (v : Regs) : (s.setRegs v).bank = s.bank := rfl
@[simp] theorem setRegs_store (s : State) (v : Regs) : (s.setRegs v).store = s.store := rfl
@[simp] theorem setRegs_timer (s : State) (v : Regs) : (s.setRegs v).timer = s.timer := rfl
@[simp] theorem setRegs_ppu (s : State) (v : Regs) : (s.setRegs v).ppu = s.ppu := rfl
@[simp] theorem setRegs_spu (s : State) (v : Regs) : (s.setRegs v).spu = s.spu := rfl
@[simp] theorem setRegs_events (s : State) (v : Regs) : (s.setRegs v).events = s.events := rfl
@[simp] theorem setRegs_cycles (s : State) (v : Regs) : (s.setRegs v).cycles = s.cycles := rfl
@[simp] theorem setRegs_freeIndex (s : State) (v : Regs) : (s.setRegs v).freeIndex = s.freeIndex := rfl

@[simp] theorem setIme_cfg (s : State) (v : Bool) : (s.setIme v).cfg = s.cfg := rfl
@[simp] theorem setIme_regs (s : State) (v : Bool) : (s.setIme v).regs = s.regs := rfl
@[simp] theorem setIme_ime (s : State) (v : Bool) : (s.setIme v).ime = v := rfl
@[simp] theorem setIme_halted (s : State) (v : Bool) : (s.setIme v).halted = s.halted := rfl
@[simp] theorem setIme_eiPending (s : State) (v : Bool) : (s.setIme v).eiPending = s.eiPending := rfl
@[simp] theorem setIme_ifReg (s : State) (v : Bool) : (s.setIme v).ifReg = s.ifReg := rfl
@[simp] theorem setIme_ieReg (s : State) (v : Bool) : (s.setIme v).ieReg = s.ieReg := rfl
@[simp] theorem setIme_bank (s : State) (v : Bool) : (s.setIme v).bank = s.bank := rfl
@[simp] theorem setIme_store (s : State) (v : Bool) : (s.setIme v).store = s.store := rfl
@[simp] theorem setIme_timer (s : State) (v : Bool) : (s.setIme v).timer = s.timer := rfl
@[simp] theorem setIme_ppu (s : State) (v : Bool) : (s.setIme v).ppu = s.ppu := rfl
@[simp] theorem setIme_spu (s : State) (v : Bool) : (s.setIme v).spu = s.spu := rfl
@[simp] theorem setIme_events (s : State) (v : Bool) : (s.setIme v).events = s.events := rfl
@[simp] theorem setIme_cycles (s : State) (v : Bool) : (s.setIme v).cycles = s.cycles := rfl
@[simp] theorem setIme_freeIndex (s : State) (v : Bool) : (s.setIme v).freeIndex = s.freeIndex := rfl

@[simp] theorem setHalted_cfg (s : State) (v : Bool) : (s.setHalted v).cfg = s.cfg := rfl
@[simp] theorem setHalted_regs (s : State) (v : Bool) : (s.setHalted v).regs = s.regs := rfl
@[simp] theorem setHalted_ime (s : State) (v : Bool) : (s.setHalted v).ime = s.ime := rfl
@[simp] theorem setHalted_halted (s : State) (v : Bool) : (s.setHalted v).halted = v := rfl
@[simp] theorem setHalted_eiPending (s : State) (v : Bool) : (s.setHalted v).eiPending = s.eiPending := rfl
@[simp] theorem setHalted_ifReg (s : State) (v : Bool) : (s.setHalted v).ifReg = s.ifReg := rfl
@[simp] theorem setHalted_ieReg (s : State) (v : Bool) : (s.setHalted v).ieReg = s.ieReg := rfl
@[simp] theorem setHalted_bank (s : State) (v : Bool) : (s.setHalted v).bank = s.bank := rfl
@[simp] theorem setHalted_store (s : State) (v : Bool) : (s.setHalted v).store = s.store := rfl
@[simp] theorem setHalted_timer (s : State) (v : Bool) : (s.setHalted v).timer = s.timer := rfl
@[simp] theorem setHalted_ppu (s : State) (v : Bool) : (s.setHalted v).ppu = s.ppu := rfl
@[simp] theorem setHalted_spu (s : State) (v : Bool) : (s.setHalted v).spu = s.spu := rfl
@[simp] theorem setHalted_events (s : State) (v : Bool) : (s.setHalted v).events = s.events := rfl
@[simp] theorem setHalted_cycles (s : State) (v : Bool) : (s.setHalted v).cycles = s.cycles := rfl
@[simp] theorem setHalted_freeIndex (s : State) (v : Bool) : (s.setHalted v).freeIndex = s.freeIndex := rfl

@[simp] theorem setEiPending_cfg (s : State) (v : Bool) : (s.setEiPending v).cfg = s.cfg := rfl
@[simp] theorem setEiPending_regs (s : State) (v : Bool) : (s.setEiPending v).regs = s.regs := rfl
@[simp] theorem setEiPending_ime (s : State) (v : Bool) : (s.setEiPending v).ime = s.ime := rfl
@[simp] theorem setEiPending_halted (s : State) (v : Bool) : (s.setEiPending v).halted = s.halted := rfl
@[simp] theorem setEiPending_eiPending (s : State) (v : Bool) : (s.setEiPending v).eiPending = v := rfl
@[simp] theorem setEiPending_ifReg (s : State) (v : Bool) : (s.setEiPending v).ifReg = s.ifReg := rfl
@[simp] theorem setEiPending_ieReg (s : State) (v : Bool) : (s.setEiPending v).ieReg = s.ieReg := rfl
@[simp] theorem setEiPending_bank (s : State) (v : Bool) : (s.setEiPending v).bank = s.bank := rfl
@[simp] theorem setEiPending_store (s : State) (v : Bool) : (s.setEiPending v).store = s.store := rfl
@[simp] theorem setEiPending_timer (s : State) (v : Bool) : (s.setEiPending v).timer = s.timer := rfl
@[simp] theorem setEiPending_ppu (s : State) (v : Bool) : (s.setEiPending v).ppu = s.ppu := rfl
@[simp] theorem setEiPending_spu (s : State) (v : Bool) : (s.setEiPending v).spu = s.spu := rfl
@[simp] theorem setEiPending_events (s : State) (v : Bool) : (s.setEiPending v).events = s.events := rfl
@[simp] theorem setEiPending_cycles (s : State) (v : Bool) : (s.setEiPending v).cycles = s.cycles := rfl
@[simp] theorem setEiPending_freeIndex (s : State) (v : Bool) : (s.setEiPending v).freeIndex = s.freeIndex := rfl

@[simp] theorem setIf_cfg (s : State) (v : BitVec 5) : (s.setIf v).cfg = s.cfg := rfl
@[simp] theorem setIf_regs (s : State) (v : BitVec 5) : (s.setIf v).regs = s.regs := rfl
@[simp] theorem setIf_ime (s : State) (v : BitVec 5) : (s.setIf v).ime = s.ime := rfl
@[simp] theorem setIf_halted (s : State) (v : BitVec 5) : (s.setIf v).halted = s.halted := rfl
@[simp] theorem setIf_eiPending (s : State) (v : BitVec 5) : (s.setIf v).eiPending = s.eiPending := rfl
@[simp] theorem setIf_ifReg (s : State) (v : BitVec 5) : (s.setIf v).ifReg = v := rfl
@[simp] theorem setIf_ieReg (s : State) (v : BitVec 5) : (s.setIf v).ieReg = s.ieReg := rfl
@[simp] theorem setIf_bank (s : State) (v : BitVec 5) : (s.setIf v).bank = s.bank := rfl
@[simp] theorem setIf_store (s : State) (v : BitVec 5) : (s.setIf v).store = s.store := rfl
@[simp] theorem setIf_timer (s : State) (v : BitVec 5) : (s.setIf v).timer = s.timer := rfl
@[simp] theorem setIf_ppu (s : State) (v : BitVec 5) : (s.setIf v).ppu = s.ppu := rfl
@[simp] theorem setIf_spu (s : State) (v : BitVec 5) : (s.setIf v).spu = s.spu := rfl
@[simp] theorem setIf_events (s : State) (v : BitVec 5) : (s.setIf v).events = s.events := rfl
@[simp] theorem setIf_cycles (s : State) (v : BitVec 5) : (s.setIf v).cycles = s.cycles := rfl
@[simp] theorem setIf_freeIndex (s : State) (v : BitVec 5) : (s.setIf v).freeIndex = s.freeIndex := rfl

@[simp] theorem setIe_cfg (s : State) (v : BitVec 5) : (s.setIe v).cfg = s.cfg := rfl
@[simp] theorem setIe_regs (s : State) (v : BitVec 5) : (s.setIe v).regs = s.regs := rfl
@[simp] theorem setIe_ime (s : State) (v : BitVec 5) : (s.setIe v).ime = s.ime := rfl
@[simp] theorem setIe_halted (s : State) (v : BitVec 5) : (s.setIe v).halted = s.halted := rfl
@[simp] theorem setIe_eiPending (s : State) (v : BitVec 5) : (s.setIe v).eiPending = s.eiPending := rfl
@[simp] theorem setIe_ifReg (s : State) (v : BitVec 5) : (s.setIe v).ifReg = s.ifReg := rfl
@[simp] theorem setIe_ieReg (s : State) (v : BitVec 5) : (s.setIe v).ieReg = v := rfl
@[simp] theorem setIe_bank (s : State) (v : BitVec 5) : (s.setIe v).bank = s.bank := rfl
@[simp] theorem setIe_store (s : State) (v : BitVec 5) : (s.setIe v).store = s.store := rfl
@[simp] theorem setIe_timer (s : State) (v : BitVec 5) : (s.setIe v).timer = s.timer := rfl
@[simp] theorem setIe_ppu (s : State) (v : BitVec 5) : (s.setIe v).ppu = s.ppu := rfl
@[simp] theorem setIe_spu (s : State) (v : BitVec 5) : (s.setIe v).spu = s.spu := rfl
@[simp] theorem setIe_events (s : State) (v : BitVec 5) : (s.setIe v).events = s.events := rfl
@[simp] theorem setIe_cycles (s : State) (v : BitVec 5) : (s.setIe v).cycles = s.cycles := rfl
@[simp] theorem setIe_freeIndex (s : State) (v : BitVec 5) : (s.setIe v).freeIndex = s.freeIndex := rfl

@[simp] theorem setBank_cfg (s : State) (v : Bank) : (s.setBank v).cfg = s.cfg := rfl
@[simp] theorem setBank_regs (s : State) (v : Bank) : (s.setBank v).regs = s.regs := rfl
@[simp] theorem setBank_ime (s : State) (v : Bank) : (s.setBank v).ime = s.ime := rfl
@[simp] theorem setBank_halted (s : State) (v : Bank) : (s.setBank v).halted = s.halted := rfl
@[simp] theorem setBank_eiPending (s : State) (v : Bank) : (s.setBank v).eiPending = s.eiPending := rfl
@[simp] theorem setBank_ifReg (s : State) (v : Bank) : (s.setBank v).ifReg = s.ifReg := rfl
@[simp] theorem setBank_ieReg (s : State) (v : Bank) : (s.setBank v).ieReg = s.ieReg := rfl
@[simp] theorem setBank_bank (s : State) (v : Bank) : (s.setBank v).bank = v := rfl
@[simp] theorem setBank_store (s : State) (v : Bank) : (s.setBank v).store = s.store := rfl
@[simp] theorem setBank_timer (s : State) (v : Bank) : (s.setBank v).timer = s.timer := rfl
@[simp] theorem setBank_ppu (s : State) (v : Bank) : (s.setBank v).ppu = s.ppu := rfl
@[simp] theorem setBank_spu (s : State) (v : Bank) : (s.setBank v).spu = s.spu := rfl
@[simp] theorem setBank_events (s : State) (v : Bank) : (s.setBank v).events = s.events := rfl
@[simp] theorem setBank_cycles (s : State) (v : Bank) : (s.setBank v).cycles = s.cycles := rfl
@[simp] theorem setBank_freeIndex (s : State) (v : Bank) : (s.setBank v).freeIndex = s.freeIndex := rfl

@[simp] theorem setStore_cfg (s : State) (v : Store) : (s.setStore v).cfg = s.cfg := rfl
@[simp] theorem setStore_regs (s : State) (v : Store) : (s.setStore v).regs = s.regs := rfl
@[simp] theorem setStore_ime (s : State) (v : Store) : (s.setStore v).ime = s.ime := rfl
@[simp] theorem setStore_halted (s : State) (v : Store) : (s.setStore v).halted = s.halted := rfl
@[simp] theorem setStore_eiPending (s : State) (v : Store) : (s.setStore v).eiPending = s.eiPending := rfl
@[simp] theorem setStore_ifReg (s : State) (v : Store) : (s.setStore v).ifReg = s.ifReg := rfl
@[simp] theorem setStore_ieReg (s : State) (v : Store) : (s.setStore v).ieReg = s.ieReg := rfl
@[simp] theorem setStore_bank (s : State) (v : Store) : (s.setStore v).bank = s.bank := rfl
@[simp] theorem setStore_store (s : State) (v : Store) : (s.setStore v).store = v := rfl
@[simp] theorem setStore_timer (s : State) (v : Store) : (s.setStore v).timer = s.timer := rfl
@[simp] theorem setStore_ppu (s : State) (v : Store) : (s.setStore v).ppu = s.ppu := rfl
@[simp] theorem setStore_spu (s : State) (v : Store) : (s.setStore v).spu = s.spu := rfl
@[simp] theorem setStore_events (s : State) (v : Store) : (s.setStore v).events = s.events := rfl
@[simp] theorem setStore_cycles (s : State) (v : Store) : (s.setStore v).cycles = s.cycles := rfl
@[simp] theorem setStore_freeIndex (s : State) (v : Store) : (s.setStore v).freeIndex = s.freeIndex := rfl

@[simp] theorem setTimer_cfg (s : State) (v : Timer) : (s.setTimer v).cfg = s.cfg := rfl
@[simp] theorem setTimer_regs (s : State) (v : Timer) : (s.setTimer v).regs = s.regs := rfl
@[simp] theorem setTimer_ime (s : State) (v : Timer) : (s.setTimer v).ime = s.ime := rfl
@[simp] theorem setTimer_halted (s : State) (v : Timer) : (s.setTimer v).halted = s.halted := rfl
@[simp] theorem setTimer_eiPending (s : State) (v : Timer) : (s.setTimer v).eiPending = s.eiPending := rfl
@[simp] theorem setTimer_ifReg (s : State) (v : Timer) : (s.setTimer v).ifReg = s.ifReg := rfl
@[simp] theorem setTimer_ieReg (s : State) (v : Timer) : (s.setTimer v).ieReg = s.ieReg := rfl
@[simp] theorem setTimer_bank (s : State) (v : Timer) : (s.setTimer v).bank = s.bank := rfl
@[simp] theorem setTimer_store (s : State) (v : Timer) : (s.setTimer v).store = s.store := rfl
@[simp] theorem setTimer_timer (s : State) (v : Timer) : (s.setTimer v).timer = v := rfl
@[simp] theorem setTimer_ppu (s : State) (v : Timer) : (s.setTimer v).ppu = s.ppu := rfl
@[simp] theorem setTimer_spu (s : State) (v : Timer) : (s.setTimer v).spu = s.spu := rfl
@[simp] theorem setTimer_events (s : State) (v : Timer) : (s.setTimer v).events = s.events := rfl
@[simp] theorem setTimer_cycles (s : State) (v : Timer) : (s.setTimer v).cycles = s.cycles := rfl
@[simp] theorem setTimer_freeIndex (s : State) (v : Timer) : (s.setTimer v).freeIndex = s.freeIndex := rfl

@[simp] theorem setPpu_cfg (s : State) (v : Ppu) : (s.setPpu v).cfg = s.cfg := rfl
@[simp] theorem setPpu_regs (s : State) (v : Ppu) : (s.setPpu v).regs = s.regs := rfl
@[simp] theorem setPpu_ime (s : State) (v : Ppu) : (s.setPpu v).ime = s.ime := rfl
@[simp] theorem setPpu_halted (s : State) (v : Ppu) : (s.setPpu v).halted = s.halted := rfl
@[simp] theorem setPpu_eiPending (s : State) (v : Ppu) : (s.setPpu v).eiPending = s.eiPending := rfl
@[simp] theorem setPpu_ifReg (s : State) (v : Ppu) : (s.setPpu v).ifReg = s.ifReg := rfl
@[simp] theorem setPpu_ieReg (s : State) (v : Ppu) : (s.setPpu v).ieReg = s.ieReg := rfl
@[simp] theorem setPpu_bank (s : State) (v : Ppu) : (s.setPpu v).bank = s.bank := rfl
@[simp] theorem setPpu_store (s : State) (v : Ppu) : (s.setPpu v).store = s.store := rfl
@[simp] theorem setPpu_timer (s : State) (v : Ppu) : (s.setPpu v).timer = s.timer := rfl
@[simp] theorem setPpu_ppu (s : State) (v : Ppu) : (s.setPpu v).ppu = v := rfl
@[simp] theorem setPpu_spu (s : State) (v : Ppu) : (s.setPpu v).spu = s.spu := rfl
@[simp] theorem setPpu_events (s : State) (v : Ppu) : (s.setPpu v).events = s.events := rfl
@[simp] theorem setPpu_cycles (s : State) (v : Ppu) : (s.setPpu v).cycles = s.cycles := rfl
@[simp] theorem setPpu_freeIndex (s : State) (v : Ppu) : (s.setPpu v).freeIndex = s.freeIndex := rfl

@[simp] theorem setSpu_cfg (s : State) (v : Spu) : (s.setSpu v).cfg = s.cfg := rfl
@[simp] theorem setSpu_regs (s : State) (v : Spu) : (s.setSpu v).regs = s.regs := rfl
@[simp] theorem setSpu_ime (s : State) (v : Spu) : (s.setSpu v).ime = s.ime := rfl
@[simp] theorem setSpu_halted (s : State) (v : Spu) : (s.setSpu v).halted = s.halted := rfl
@[simp] theorem setSpu_eiPending (s : State) (v : Spu) : (s.setSpu v).eiPending = s.eiPending := rfl
@[simp] theorem setSpu_ifReg (s : State) (v : Spu) : (s.setSpu v).ifReg = s.ifReg := rfl
@[simp] theorem setSpu_ieReg (s : State) (v : Spu) : (s.setSpu v).ieReg = s.ieReg := rfl
@[simp] theorem setSpu_bank (s : State) (v : Spu) : (s.setSpu v).bank = s.bank := rfl
@[simp] theorem setSpu_store (s : State) (v : Spu) : (s.setSpu v).store = s.store := rfl
@[simp] theorem setSpu_timer (s : State) (v : Spu) : (s.setSpu v).timer = s.timer := rfl
@[simp] theorem setSpu_ppu (s : State) (v : Spu) : (s.setSpu v).ppu = s.ppu := rfl
@[simp] theorem setSpu_spu (s : State) (v : Spu) : (s.setSpu v).spu = v := rfl
@[simp] theorem setSpu_events (s : State) (v : Spu) : (s.setSpu v).events = s.events := rfl
@[simp] theorem setSpu_cycles (s : State) (v : Spu) : (s.setSpu v).cycles = s.cycles := rfl
@[simp] theorem setSpu_freeIndex (s : State) (v : Spu) : (s.setSpu v).freeIndex = s.freeIndex := rfl

@[simp] theorem logEvent_cfg (s : State) (v : Event) : (s.logEvent v).cfg = s.cfg := rfl
@[simp] theorem logEvent_regs (s : State) (v : Event) : (s.logEvent v).regs = s.regs := rfl
@[simp] theorem logEvent_ime (s : State) (v : Event) : (s.logEvent v).ime = s.ime := rfl
@[simp] theorem logEvent_halted (s : State) (v : Event) : (s.logEvent v).halted = s.halted := rfl
@[simp] theorem logEvent_eiPending (s : State) (v : Event) : (s.logEvent v).eiPending = s.eiPending := rfl
@[simp] theorem logEvent_ifReg (s : State) (v : Event) : (s.logEvent v).ifReg = s.ifReg := rfl
@[simp] theorem logEvent_ieReg (s : State) (v : Event) : (s.logEvent v).ieReg = s.ieReg := rfl
@[simp] theorem logEvent_bank (s : State) (v : Event) : (s.logEvent v).bank = s.bank := rfl
@[simp] theorem logEvent_store (s : State) (v : Event) : (s.logEvent v).store = s.store := rfl
@[simp] theorem logEvent_timer (s : State) (v : Event) : (s.logEvent v).timer = s.timer := rfl
@[simp] theorem logEvent_ppu (s : State) (v : Event) : (s.logEvent v).ppu = s.ppu := rfl
@[simp] theorem logEvent_spu (s : State) (v : Event) : (s.logEvent v).spu = s.spu := rfl
@[simp] theorem logEvent_events (s : State) (v : Event) : (s.logEvent v).events = s.events ++ [v] := rfl
@[simp] theorem logEvent_cycles (s : State) (v : Event) : (s.logEvent v).cycles = s.cycles := rfl
@[simp] theorem logEvent_freeIndex (s : State) (v : Event) : (s.logEvent v).freeIndex = s.freeIndex := rfl

@[simp] theorem setCycles_cfg (s : State) (v : Nat) : (s.setCycles v).cfg = s.cfg := rfl
@[simp] theorem setCycles_regs (s : State) (v : Nat) : (s.setCycles v).regs = s.regs := rfl
@[simp] theorem setCycles_ime (s : State) (v : Nat) : (s.setCycles v).ime = s.ime := rfl
@[simp] theorem setCycles_halted (s : State) (v : Nat) : (s.setCycles v).halted = s.halted := rfl
@[simp] theorem setCycles_eiPending (s : State) (v : Nat) : (s.setCycles v).eiPending = s.eiPending := rfl
@[simp] theorem setCycles_ifReg (s : State) (v : Nat) : (s.setCycles v).ifReg = s.ifReg := rfl
@[simp] theorem setCycles_ieReg (s : State) (v : Nat) : (s.setCycles v).ieReg = s.ieReg := rfl
@[simp] theorem setCycles_bank (s : State) (v : Nat) : (s.setCycles v).bank = s.bank := rfl
@[simp] theorem setCycles_store (s : State) (v : Nat) : (s.setCycles v).store = s.store := rfl
@[simp] theorem setCycles_timer (s : State) (v : Nat) : (s.setCycles v).timer = s.timer := rfl
@[simp] theorem setCycles_ppu (s : State) (v : Nat) : (s.setCycles v).ppu = s.ppu := rfl
@[simp] theorem setCycles_spu (s : State) (v : Nat) : (s.setCycles v).spu = s.spu := rfl
@[simp] theorem setCycles_events (s : State) (v : Nat) : (s.setCycles v).events = s.events := rfl
@[simp] theorem setCycles_cycles (s : State) (v : Nat) : (s.setCycles v).cycles = v := rfl
@[simp] theorem setCycles_freeIndex (s : State) (v : Nat) : (s.setCycles v).freeIndex = s.freeIndex := rfl

@[simp] theorem charge_cfg (s : State) (v : Nat) : (s.charge v).cfg = s.cfg := rfl
@[simp] theorem charge_regs (s : State) (v : Nat) : (s.charge v).regs = s.regs := rfl
@[simp] theorem charge_ime (s : State) (v : Nat) : (s.charge v).ime = s.ime := rfl
@[simp] theorem charge_halted (s : State) (v : Nat) : (s.charge v).halted = s.halted := rfl
@[simp] theorem charge_eiPending (s : State) (v : Nat) : (s.charge v).eiPending = s.eiPending := rfl
@[simp] theorem charge_ifReg (s : State) (v : Nat) : (s.charge v).ifReg = s.ifReg := rfl
@[simp] theorem charge_ieReg (s : State) (v : Nat) : (s.charge v).ieReg = s.ieReg := rfl
@[simp] theorem charge_bank (s : State) (v : Nat) : (s.charge v).bank = s.bank := rfl
@[simp] theorem charge_store (s : State) (v : Nat) : (s.charge v).store = s.store := rfl
@[simp] theorem charge_timer (s : State) (v : Nat) : (s.charge v).timer = s.timer := rfl
@[simp] theorem charge_ppu (s : State) (v : Nat) : (s.charge v).ppu = s.ppu := rfl
@[simp] theorem charge_spu (s : State) (v : Nat) : (s.charge v).spu = s.spu := rfl
@[simp] theorem charge_events (s : State) (v : Nat) : (s.charge v).events = s.events := rfl
@[simp] theorem charge_cycles (s : State) (v : Nat) : (s.charge v).cycles = s.cycles + v := rfl
@[simp] theorem charge_freeIndex (s : State) (v : Nat) : (s.charge v).freeIndex = s.freeIndex := rfl

@[simp] theorem raise_cfg (s : State) (v : Nat) : (s.raise v).cfg = s.cfg := rfl
@[simp] theorem raise_regs (s : State) (v : Nat) : (s.raise v).regs = s.regs := rfl
@[simp] theorem raise_ime (s : State) (v : Nat) : (s.raise v).ime = s.ime := rfl
@[simp] theorem raise_halted (s : State) (v : Nat) : (s.raise v).halted = s.halted := rfl
@[simp] theorem raise_eiPending (s : State) (v : Nat) : (s.raise v).eiPending = s.eiPending := rfl
@[simp] theorem raise_ifReg (s : State) (v : Nat) : (s.raise v).ifReg = s.ifReg ||| (1#5 <<< v) := rfl
@[simp] theorem raise_ieReg (s : State) (v : Nat) : (s.raise v).ieReg = s.ieReg := rfl
@[simp] theorem raise_bank (s : State) (v : Nat) : (s.raise v).bank = s.bank := rfl
@[simp] theorem raise_store (s : State) (v : Nat) : (s.raise v).store = s.store := rfl
@[simp] theorem raise_timer (s : State) (v : Nat) : (s.raise v).timer = s.timer := rfl
@[simp] theorem raise_ppu (s : State) (v : Nat) : (s.raise v).ppu = s.ppu := rfl
@[simp] theorem raise_spu (s : State) (v : Nat) : (s.raise v).spu = s.spu := rfl
@[simp] theorem raise_events (s : State) (v : Nat) : (s.raise v).events = s.events := rfl
@[simp] theorem raise_cycles (s : State) (v : Nat) : (s.raise v).cycles = s.cycles := rfl
@[simp] theorem raise_freeIndex (s : State) (v : Nat) : (s.raise v).freeIndex = s.freeIndex := rfl

@[simp] theorem nextFree_cfg (s : State) : (s.nextFree).cfg = s.cfg := rfl
@[simp] theorem nextFree_regs (s : State) : (s.nextFree).regs = s.regs := rfl
@[simp] theorem nextFree_ime (s : State) : (s.nextFree).ime = s.ime := rfl
@[simp] theorem nextFree_halted (s : State) : (s.nextFree).halted = s.halted := rfl
@[simp] theorem nextFree_eiPending (s : State) : (s.nextFree).eiPending = s.eiPending := rfl
@[simp] theorem nextFree_ifReg (s : State) : (s.nextFree).ifReg = s.ifReg := rfl
@[simp] theorem nextFree_ieReg (s : State) : (s.nextFree).ieReg = s.ieReg := rfl
@[simp] theorem nextFree_bank (s : State) : (s.nextFree).bank = s.bank := rfl
@[simp] theorem nextFree_store (s : State) : (s.nextFree).store = s.store := rfl
@[simp] theorem nextFree_timer (s : State) : (s.nextFree).timer = s.timer := rfl
@[simp] theorem nextFree_ppu (s : State) : (s.nextFree).ppu = s.ppu := rfl
@[simp] theorem nextFree_spu (s : State) : (s.nextFree).spu = s.spu := rfl
@[simp] theorem nextFree_events (s : State) : (s.nextFree).events = s.events := rfl
@[simp] theorem nextFree_cycles (s : State) : (s.nextFree).cycles = s.cycles := rfl
@[simp] theorem nextFree_freeIndex (s : State) : (s.nextFree).freeIndex = s.freeIndex + 1 := rfl

@[simp] theorem clearPending_cfg (s : State) (v : Nat) : (s.clearPending v).cfg = s.cfg := rfl
@[simp] theorem clearPending_regs (s : State) (v : Nat) : (s.clearPending v).regs = s.regs := rfl
@[simp] theorem clearPending_ime (s : State) (v : Nat) : (s.clearPending v).ime = s.ime := rfl
@[simp] theorem clearPending_halted (s : State) (v : Nat) : (s.clearPending v).halted = s.halted := rfl
@[simp] theorem clearPending_eiPending (s : State) (v : Nat) : (s.clearPending v).eiPending = s.eiPending := rfl
@[simp] theorem clearPending_ifReg (s : State) (v : Nat) : (s.clearPending v).ifReg = s.ifReg &&& ~~~(1#5 <<< v) := rfl
@[simp] theorem clearPending_ieReg (s : State) (v : Nat) : (s.clearPending v).ieReg = s.ieReg := rfl
@[simp] theorem clearPending_bank (s : State) (v : Nat) : (s.clearPending v).bank = s.bank := rfl
@[simp] theorem clearPending_store (s : State) (v : Nat) : (s.clearPending v).store = s.store := rfl
@[simp] theorem clearPending_timer (s : State) (v : Nat) : (s.clearPending v).timer = s.timer := rfl
@[simp] theorem clearPending_ppu (s : State) (v : Nat) : (s.clearPending v).ppu = s.ppu := rfl
@[simp] theorem clearPending_spu (s : State) (v : Nat) : (s.clearPending v).spu = s.spu := rfl
@[simp] theorem clearPending_events (s : State) (v : Nat) : (s.clearPending v).events = s.events := rfl
@[simp] theorem clearPending_cycles (s : State) (v : Nat) : (s.clearPending v).cycles = s.cycles := rfl
@[simp] theorem clearPending_freeIndex (s : State) (v : Nat) : (s.clearPending v).freeIndex = s.freeIndex := rfl

@[simp] theorem setPc_cfg (s : State) (v : Word) : (s.setPc v).cfg = s.cfg := rfl
@[simp] theorem setPc_ime (s : State) (v : Word) : (s.setPc v).ime = s.ime := rfl
@[simp] theorem setPc_halted (s : State) (v : Word) : (s.setPc v).halted = s.halted := rfl
@[simp] theorem setPc_eiPending (s : State) (v : Word) : (s.setPc v).eiPending = s.eiPending := rfl
@[simp] theorem setPc_ifReg (s : State) (v : Word) : (s.setPc v).ifReg = s.ifReg := rfl
@[simp] theorem setPc_ieReg (s : State) (v : Word) : (s.setPc v).ieReg = s.ieReg := rfl
@[simp] theorem setPc_bank (s : State) (v : Word) : (s.setPc v).bank = s.bank := rfl
@[simp] theorem setPc_store (s : State) (v : Word) : (s.setPc v).store = s.store := rfl
@[simp] theorem setPc_timer (s : State) (v : Word) : (s.setPc v).timer = s.timer := rfl
@[simp] theorem setPc_ppu (s : State) (v : Word) : (s.setPc v).ppu = s.ppu := rfl
@[simp] theorem setPc_spu (s : State) (v : Word) : (s.setPc v).spu = s.spu := rfl
@[simp] theorem setPc_events (s : State) (v : Word) : (s.setPc v).events = s.events := rfl
@[simp] theorem setPc_cycles (s : State) (v : Word) : (s.setPc v).cycles = s.cycles := rfl
@[simp] theorem setPc_freeIndex (s : State) (v : Word) : (s.setPc v).freeIndex = s.freeIndex := rfl
@[simp] theorem setPc_regs_a (s : State) (v : Word) : (s.setPc v).regs.a = s.regs.a := rfl
@[simp] theorem setPc_regs_f (s : State) (v : Word) : (s.setPc v).regs.f = s.regs.f := rfl
@[simp] theorem setPc_regs_b (s : State) (v : Word) : (s.setPc v).regs.b = s.regs.b := rfl
@[simp] theorem setPc_regs_c (s : State) (v : Word) : (s.setPc v).regs.c = s.regs.c := rfl
@[simp] theorem setPc_regs_d (s : State) (v : Word) : (s.setPc v).regs.d = s.regs.d := rfl
@[simp] theorem setPc_regs_e (s : State) (v : Word) : (s.setPc v).regs.e = s.regs.e := rfl
@[simp] theorem setPc_regs_h (s : State) (v : Word) : (s.setPc v).regs.h = s.regs.h := rfl
@[simp] theorem setPc_regs_l (s : State) (v : Word) : (s.setPc v).regs.l = s.regs.l := rfl
@[simp] theorem setPc_regs_sp (s : State) (v : Word) : (s.setPc v).regs.sp = s.regs.sp := rfl
@[simp] theorem setPc_regs_pc (s : State) (v : Word) : (s.setPc v).regs.pc = v := rfl

@[simp] theorem setSp_cfg (s : State) (v : Word) : (s.setSp v).cfg = s.cfg := rfl
@[simp] theorem setSp_ime (s : State) (v : Word) : (s.setSp v).ime = s.ime := rfl
@[simp] theorem setSp_halted (s : State) (v : Word) : (s.setSp v).halted = s.halted := rfl
@[simp] theorem setSp_eiPending (s : State) (v : Word) : (s.setSp v).eiPending = s.eiPending := rfl
@[simp] theorem setSp_ifReg (s : State) (v : Word) : (s.setSp v).ifReg = s.ifReg := rfl
@[simp] theorem setSp_ieReg (s : State) (v : Word) : (s.setSp v).ieReg = s.ieReg := rfl
@[simp] theorem setSp_bank (s : State) (v : Word) : (s.setSp v).bank = s.bank := rfl
@[simp] theorem setSp_store (s : State) (v : Word) : (s.setSp v).store = s.store := rfl
@[simp] theorem setSp_timer (s : State) (v : Word) : (s.setSp v).timer = s.timer := rfl
@[simp] theorem setSp_ppu (s : State) (v : Word) : (s.setSp v).ppu = s.ppu := rfl
@[simp] theorem setSp_spu (s : State) (v : Word) : (s.setSp v).spu = s.spu := rfl
@[simp] theorem setSp_events (s : State) (v : Word) : (s.setSp v).events = s.events := rfl
@[simp] theorem setSp_cycles (s : State) (v : Word) : (s.setSp v).cycles = s.cycles := rfl
@[simp] theorem setSp_freeIndex (s : State) (v : Word) : (s.setSp v).freeIndex = s.freeIndex := rfl
@[simp] theorem setSp_regs_a (s : State) (v : Word) : (s.setSp v).regs.a = s.regs.a := rfl
@[simp] theorem setSp_regs_f (s : State) (v : Word) : (s.setSp v).regs.f = s.regs.f := rfl
@[simp] theorem setSp_regs_b (s : State) (v : Word) : (s.setSp v).regs.b = s.regs.b := rfl
@[simp] theorem setSp_regs_c (s : State) (v : Word) : (s.setSp v).regs.c = s.regs.c := rfl
@[simp] theorem setSp_regs_d (s : State) (v : Word) : (s.setSp v).regs.d = s.regs.d := rfl
@[simp] theorem setSp_regs_e (s : State) (v : Word) : (s.setSp v).regs.e = s.regs.e := rfl
@[simp] theorem setSp_regs_h (s : State) (v : Word) : (s.setSp v).regs.h = s.regs.h := rfl
@[simp] theorem setSp_regs_l (s : State) (v : Word) : (s.setSp v).regs.l = s.regs.l := rfl
@[simp] theorem setSp_regs_sp (s : State) (v : Word) : (s.setSp v).regs.sp = v := rfl
@[simp] theorem setSp_regs_pc (s : State) (v : Word) : (s.setSp v).regs.pc = s.regs.pc := rfl

@[simp] theorem setA_cfg (s : State) (v : Byte) : (s.setA v).cfg = s.cfg := rfl
@[simp] theorem setA_ime (s : State) (v : Byte) : (s.setA v).ime = s.ime := rfl
@[simp] theorem setA_halted (s : State) (v : Byte) : (s.setA v).halted = s.halted := rfl
@[simp] theorem setA_eiPending (s : State) (v : Byte) : (s.setA v).eiPending = s.eiPending := rfl
@[simp] theorem setA_ifReg (s : State) (v : Byte) : (s.setA v).ifReg = s.ifReg := rfl
@[simp] theorem setA_ieReg (s : State) (v : Byte) : (s.setA v).ieReg = s.ieReg := rfl
@[simp] theorem setA_bank (s : State) (v : Byte) : (s.setA v).bank = s.bank := rfl
@[simp] theorem setA_store (s : State) (v : Byte) : (s.setA v).store = s.store := rfl
@[simp] theorem setA_timer (s : State) (v : Byte) : (s.setA v).timer = s.timer := rfl
@[simp] theorem setA_ppu (s : State) (v : Byte) : (s.setA v).ppu = s.ppu := rfl
@[simp] theorem setA_spu (s : State) (v : Byte) : (s.setA v).spu = s.spu := rfl
@[simp] theorem setA_events (s : State) (v : Byte) : (s.setA v).events = s.events := rfl
@[simp] theorem setA_cycles (s : State) (v : Byte) : (s.setA v).cycles = s.cycles := rfl
@[simp] theorem setA_freeIndex (s : State) (v : Byte) : (s.setA v).freeIndex = s.freeIndex := rfl
@[simp] theorem setA_regs_a (s : State) (v : Byte) : (s.setA v).regs.a = v := rfl
@[simp] theorem setA_regs_f (s : State) (v : Byte) : (s.setA v).regs.f = s.regs.f := rfl
@[simp] theorem setA_regs_b (s : State) (v : Byte) : (s.setA v).regs.b = s.regs.b := rfl
@[simp] theorem setA_regs_c (s : State) (v : Byte) : (s.setA v).regs.c = s.regs.c := rfl
@[simp] theorem setA_regs_d (s : State) (v : Byte) : (s.setA v).regs.d = s.regs.d := rfl
@[simp] theorem setA_regs_e (s : State) (v : Byte) : (s.setA v).regs.e = s.regs.e := rfl
@[simp] theorem setA_regs_h (s : State) (v : Byte) : (s.setA v).regs.h = s.regs.h := rfl
@[simp] theorem setA_regs_l (s : State) (v : Byte) : (s.setA v).regs.l = s.regs.l := rfl
@[simp] theorem setA_regs_sp (s : State) (v : Byte) : (s.setA v).regs.sp = s.regs.sp := rfl
@[simp] theorem setA_regs_pc (s : State) (v : Byte) : (s.setA v).regs.pc = s.regs.pc := rfl

@[simp] theorem setF_cfg (s : State) (v : Byte) : (s.setF v).cfg = s.cfg := rfl
@[simp] theorem setF_ime (s : State) (v : Byte) : (s.setF v).ime = s.ime := rfl
@[simp] theorem setF_halted (s : State) (v : Byte) : (s.setF v).halted = s.halted := rfl
@[simp] theorem setF_eiPending (s : State) (v : Byte) : (s.setF v).eiPending = s.eiPending := rfl
@[simp] theorem setF_ifReg (s : State) (v : Byte) : (s.setF v).ifReg = s.ifReg := rfl
@[simp] theorem setF_ieReg (s : State) (v : Byte) : (s.setF v).ieReg = s.ieReg := rfl
@[simp] theorem setF_bank (s : State) (v : Byte) : (s.setF v).bank = s.bank := rfl
@[simp] theorem setF_store (s : State) (v : Byte) : (s.setF v).store = s.store := rfl
@[simp] theorem setF_timer (s : State) (v : Byte) : (s.setF v).timer = s.timer := rfl
@[simp] theorem setF_ppu (s : State) (v : Byte) : (s.setF v).ppu = s.ppu := rfl
@[simp] theorem setF_spu (s : State) (v : Byte) : (s.setF v).spu = s.spu := rfl
@[simp] theorem setF_events (s : State) (v : Byte) : (s.setF v).events = s.events := rfl
@[simp] theorem setF_cycles (s : State) (v : Byte) : (s.setF v).cycles = s.cycles := rfl
@[simp] theorem setF_freeIndex (s : State) (v : Byte) : (s.setF v).freeIndex = s.freeIndex := rfl
@[simp] theorem setF_regs_a (s : State) (v : Byte) : (s.setF v).regs.a = s.regs.a := rfl
@[simp] theorem setF_regs_f (s : State) (v : Byte) : (s.setF v).regs.f = v := rfl
@[simp] theorem setF_regs_b (s : State) (v : Byte) : (s.setF v).regs.b = s.regs.b := rfl
@[simp] theorem setF_regs_c (s : State) (v : Byte) : (s.setF v).regs.c = s.regs.c := rfl
@[simp] theorem setF_regs_d (s : State) (v : Byte) : (s.setF v).regs.d = s.regs.d := rfl
@[simp] theorem setF_regs_e (s : State) (v : Byte) : (s.setF v).regs.e = s.regs.e := rfl
@[simp] theorem setF_regs_h (s : State) (v : Byte) : (s.setF v).regs.h = s.regs.h := rfl
@[simp] theorem setF_regs_l (s : State) (v : Byte) : (s.setF v).regs.l = s.regs.l := rfl
@[simp] theorem setF_regs_sp (s : State) (v : Byte) : (s.setF v).regs.sp = s.regs.sp := rfl
@[simp] theorem setF_regs_pc (s : State) (v : Byte) : (s.setF v).regs.pc = s.regs.pc := rfl

@[simp] theorem setBc_cfg (s : State) (v : Word) : (s.setBc v).cfg = s.cfg := rfl
@[simp] theorem setBc_ime (s : State) (v : Word) : (s.setBc v).ime = s.ime := rfl
@[simp] theorem setBc_halted (s : State) (v : Word) : (s.setBc v).halted = s.halted := rfl
@[simp] theorem setBc_eiPending (s : State) (v : Word) : (s.setBc v).eiPending = s.eiPending := rfl
@[simp] theorem setBc_ifReg (s : State) (v : Word) : (s.setBc v).ifReg = s.ifReg := rfl
@[simp] theorem setBc_ieReg (s : State) (v : Word) : (s.setBc v).ieReg = s.ieReg := rfl
@[simp] theorem setBc_bank (s : State) (v : Word) : (s.setBc v).bank = s.bank := rfl
@[simp] theorem setBc_store (s : State) (v : Word) : (s.setBc v).store = s.store := rfl
@[simp] theorem setBc_timer (s : State) (v : Word) : (s.setBc v).timer = s.timer := rfl
@[simp] theorem setBc_ppu (s : State) (v : Word) : (s.setBc v).ppu = s.ppu := rfl
@[simp] theorem setBc_spu (s : State) (v : Word) : (s.setBc v).spu = s.spu := rfl
@[simp] theorem setBc_events (s : State) (v : Word) : (s.setBc v).events = s.events := rfl
@[simp] theorem setBc_cycles (s : State) (v : Word) : (s.setBc v).cycles = s.cycles := rfl
@[simp] theorem setBc_freeIndex (s : State) (v : Word) : (s.setBc v).freeIndex = s.freeIndex := rfl
@[simp] theorem setBc_regs_a (s : State) (v : Word) : (s.setBc v).regs.a = s.regs.a := rfl
@[simp] theorem setBc_regs_f (s : State) (v : Word) : (s.setBc v).regs.f = s.regs.f := rfl
@[simp] theorem setBc_regs_b (s : State) (v : Word) : (s.setBc v).regs.b = hiByte v := rfl
@[simp] theorem setBc_regs_c (s : State) (v : Word) : (s.setBc v).regs.c = loByte v := rfl
@[simp] theorem setBc_regs_d (s : State) (v : Word) : (s.setBc v).regs.d = s.regs.d := rfl
@[simp] theorem setBc_regs_e (s : State) (v : Word) : (s.setBc v).regs.e = s.regs.e := rfl
@[simp] theorem setBc_regs_h (s : State) (v : Word) : (s.setBc v).regs.h = s.regs.h := rfl
@[simp] theorem setBc_regs_l (s : State) (v : Word) : (s.setBc v).regs.l = s.regs.l := rfl
@[simp] theorem setBc_regs_sp (s : State) (v : Word) : (s.setBc v).regs.sp = s.regs.sp := rfl
@[simp] theorem setBc_regs_pc (s : State) (v : Word) : (s.setBc v).regs.pc = s.regs.pc := rfl

@[simp] theorem setDe_cfg (s : State) (v : Word) : (s.setDe v).cfg = s.cfg := rfl
@[simp] theorem setDe_ime (s : State) (v : Word) : (s.setDe v).ime = s.ime := rfl
@[simp] theorem setDe_halted (s : State) (v : Word) : (s.setDe v).halted = s.halted := rfl
@[simp] theorem setDe_eiPending (s : State) (v : Word) : (s.setDe v).eiPending = s.eiPending := rfl
@[simp] theorem setDe_ifReg (s : State) (v : Word) : (s.setDe v).ifReg = s.ifReg := rfl
@[simp] theorem setDe_ieReg (s : State) (v : Word) : (s.setDe v).ieReg = s.ieReg := rfl
@[simp] theorem setDe_bank (s : State) (v : Word) : (s.setDe v).bank = s.bank := rfl
@[simp] theorem setDe_store (s : State) (v : Word) : (s.setDe v).store = s.store := rfl
@[simp] theorem setDe_timer (s : State) (v : Word) : (s.setDe v).timer = s.timer := rfl
@[simp] theorem setDe_ppu (s : State) (v : Word) : (s.setDe v).ppu = s.ppu := rfl
@[simp] theorem setDe_spu (s : State) (v : Word) : (s.setDe v).spu = s.spu := rfl
@[simp] theorem setDe_events (s : State) (v : Word) : (s.setDe v).events = s.events := rfl
@[simp] theorem setDe_cycles (s : State) (v : Word) : (s.setDe v).cycles = s.cycles := rfl
@[simp] theorem setDe_freeIndex (s : State) (v : Word) : (s.setDe v).freeIndex = s.freeIndex := rfl
@[simp] theorem setDe_regs_a (s : State) (v : Word) : (s.setDe v).regs.a = s.regs.a := rfl
@[simp] theorem setDe_regs_f (s : State) (v : Word) : (s.setDe v).regs.f = s.regs.f := rfl
@[simp] theorem setDe_regs_b (s : State) (v : Word) : (s.setDe v).regs.b = s.regs.b := rfl
@[simp] theorem setDe_regs_c (s : State) (v : Word) : (s.setDe v).regs.c = s.regs.c := rfl
@[simp] theorem setDe_regs_d (s : State) (v : Word) : (s.setDe v).regs.d = hiByte v := rfl
@[simp] theorem setDe_regs_e (s : State) (v : Word) : (s.setDe v).regs.e = loByte v := rfl
@[simp] theorem setDe_regs_h (s : State) (v : Word) : (s.setDe v).regs.h = s.regs.h := rfl
@[simp] theorem setDe_regs_l (s : State) (v : Word) : (s.setDe v).regs.l = s.regs.l := rfl
@[simp] theorem setDe_regs_sp (s : State) (v : Word) : (s.setDe v).regs.sp = s.regs.sp := rfl
@[simp] theorem setDe_regs_pc (s : State) (v : Word) : (s.setDe v).regs.pc = s.regs.pc := rfl

@[simp] theorem setHl_cfg (s : State) (v : Word) : (s.setHl v).cfg = s.cfg := rfl
@[simp] theorem setHl_ime (s : State) (v : Word) : (s.setHl v).ime = s.ime := rfl
@[simp] theorem setHl_halted (s : State) (v : Word) : (s.setHl v).halted = s.halted := rfl
@[simp] theorem setHl_eiPending (s : State) (v : Word) : (s.setHl v).eiPending = s.eiPending := rfl
@[simp] theorem setHl_ifReg (s : State) (v : Word) : (s.setHl v).ifReg = s.ifReg := rfl
@[simp] theorem setHl_ieReg (s : State) (v : Word) : (s.setHl v).ieReg = s.ieReg := rfl
@[simp] theorem setHl_bank (s : State) (v : Word) : (s.setHl v).bank = s.bank := rfl
@[simp] theorem setHl_store (s : State) (v : Word) : (s.setHl v).store = s.store := rfl
@[simp] theorem setHl_timer (s : State) (v : Word) : (s.setHl v).timer = s.timer := rfl
@[simp] theorem setHl_ppu (s : State) (v : Word) : (s.setHl v).ppu = s.ppu := rfl
@[simp] theorem setHl_spu (s : State) (v : Word) : (s.setHl v).spu = s.spu := rfl
@[simp] theorem setHl_events (s : State) (v : Word) : (s.setHl v).events = s.events := rfl
@[simp] theorem setHl_cycles (s : State) (v : Word) : (s.setHl v).cycles = s.cycles := rfl
@[simp] theorem setHl_freeIndex (s : State) (v : Word) : (s.setHl v).freeIndex = s.freeIndex := rfl
@[simp] theorem setHl_regs_a (s : State) (v : Word) : (s.setHl v).regs.a = s.regs.a := rfl
@[simp] theorem setHl_regs_f (s : State) (v : Word) : (s.setHl v).regs.f = s.regs.f := rfl
@[simp] theorem setHl_regs_b (s : State) (v : Word) : (s.setHl v).regs.b = s.regs.b := rfl
@[simp] theorem setHl_regs_c (s : State) (v : Word) : (s.setHl v).regs.c = s.regs.c := rfl
@[simp] theorem setHl_regs_d (s : State) (v : Word) : (s.setHl v).regs.d = s.regs.d := rfl
@[simp] theorem setHl_regs_e (s : State) (v : Word) : (s.setHl v).regs.e = s.regs.e := rfl
@[simp] theorem setHl_regs_h (s : State) (v : Word) : (s.setHl v).regs.h = hiByte v := rfl
@[simp] theorem setHl_regs_l (s : State) (v : Word) : (s.setHl v).regs.l = loByte v := rfl
@[simp] theorem setHl_regs_sp (s : State) (v : Word) : (s.setHl v).regs.sp = s.regs.sp := rfl
@[simp] theorem setHl_regs_pc (s : State) (v : Word) : (s.setHl v).regs.pc = s.regs.pc := rfl

@[simp] theorem setAf_cfg (s : State) (v : Word) : (s.setAf v).cfg = s.cfg := rfl
@[simp] theorem setAf_ime (s : State) (v : Word) : (s.setAf v).ime = s.ime := rfl
@[simp] theorem setAf_halted (s : State) (v : Word) : (s.setAf v).halted = s.halted := rfl
@[simp] theorem setAf_eiPending (s : State) (v : Word) : (s.setAf v).eiPending = s.eiPending := rfl
@[simp] theorem setAf_ifReg (s : State) (v : Word) : (s.setAf v).ifReg = s.ifReg := rfl
@[simp] theorem setAf_ieReg (s : State) (v : Word) : (s.setAf v).ieReg = s.ieReg := rfl
@[simp] theorem setAf_bank (s : State) (v : Word) : (s.setAf v).bank = s.bank := rfl
@[simp] theorem setAf_store (s : State) (v : Word) : (s.setAf v).store = s.store := rfl
@[simp] theorem setAf_timer (s : State) (v : Word) : (s.setAf v).timer = s.timer := rfl
@[simp] theorem setAf_ppu (s : State) (v : Word) : (s.setAf v).ppu = s.ppu := rfl
@[simp] theorem setAf_spu (s : State) (v : Word) : (s.setAf v).spu = s.spu := rfl
@[simp] theorem setAf_events (s : State) (v : Word) : (s.setAf v).events = s.events := rfl
@[simp] theorem setAf_cycles (s : State) (v : Word) : (s.setAf v).cycles = s.cycles := rfl
@[simp] theorem setAf_freeIndex (s : State) (v : Word) : (s.setAf v).freeIndex = s.freeIndex := rfl
@[simp] theorem setAf_regs_a (s : State) (v : Word) : (s.setAf v).regs.a = hiByte v := rfl
@[simp] theorem setAf_regs_f (s : State) (v : Word) : (s.setAf v).regs.f = loByte v &&& 0xF0#8 := rfl
@[simp] theorem setAf_regs_b (s : State) (v : Word) : (s.setAf v).regs.b = s.regs.b := rfl
@[simp] theorem setAf_regs_c (s : State) (v : Word) : (s.setAf v).regs.c = s.regs.c := rfl
@[simp] theorem setAf_regs_d (s : State) (v : Word) : (s.setAf v).regs.d = s.regs.d := rfl
@[simp] theorem setAf_regs_e (s : State) (v : Word) : (s.setAf v).regs.e = s.regs.e := rfl
@[simp] theorem setAf_regs_h (s : State) (v : Word) : (s.setAf v).regs.h = s.regs.h := rfl
@[simp] theorem setAf_regs_l (s : State) (v : Word) : (s.setAf v).regs.l = s.regs.l := rfl
@[simp] theorem setAf_regs_sp (s : State) (v : Word) : (s.setAf v).regs.sp = s.regs.sp := rfl
@[simp] theorem setAf_regs_pc (s : State) (v : Word) : (s.setAf v).regs.pc = s.regs.pc := rfl

@[simp] theorem setFlags_cfg (s : State) (v : Flags) : (s.setFlags v).cfg = s.cfg := rfl
@[simp] theorem setFlags_ime (s : State) (v : Flags) : (s.setFlags v).ime = s.ime := rfl
@[simp] theorem setFlags_halted (s : State) (v : Flags) : (s.setFlags v).halted = s.halted := rfl
@[simp] theorem setFlags_eiPending (s : State) (v : Flags) : (s.setFlags v).eiPending = s.eiPending := rfl
@[simp] theorem setFlags_ifReg (s : State) (v : Flags) : (s.setFlags v).ifReg = s.ifReg := rfl
@[simp] theorem setFlags_ieReg (s : State) (v : Flags) : (s.setFlags v).ieReg = s.ieReg := rfl
@[simp] theorem setFlags_bank (s : State) (v : Flags) : (s.setFlags v).bank = s.bank := rfl
@[simp] theorem setFlags_store (s : State) (v : Flags) : (s.setFlags v).store = s.store := rfl
@[simp] theorem setFlags_timer (s : State) (v : Flags) : (s.setFlags v).timer = s.timer := rfl
@[simp] theorem setFlags_ppu (s : State) (v : Flags) : (s.setFlags v).ppu = s.ppu := rfl
@[simp] theorem setFlags_spu (s : State) (v : Flags) : (s.setFlags v).spu = s.spu := rfl
@[simp] theorem setFlags_events (s : State) (v : Flags) : (s.setFlags v).events = s.events := rfl
@[simp] theorem setFlags_cycles (s : State) (v : Flags) : (s.setFlags v).cycles = s.cycles := rfl
@[simp] theorem setFlags_freeIndex (s : State) (v : Flags) : (s.setFlags v).freeIndex = s.freeIndex := rfl
@[simp] theorem setFlags_regs_a (s : State) (v : Flags) : (s.setFlags v).regs.a = s.regs.a := rfl
@[simp] theorem setFlags_regs_f (s : State) (v : Flags) : (s.setFlags v).regs.f = withFlags s.regs.f v := rfl
@[simp] theorem setFlags_regs_b (s : State) (v : Flags) : (s.setFlags v).regs.b = s.regs.b := rfl
@[simp] theorem setFlags_regs_c (s : State) (v : Flags) : (s.setFlags v).regs.c = s.regs.c := rfl
@[simp] theorem setFlags_regs_d (s : State) (v : Flags) : (s.setFlags v).regs.d = s.regs.d := rfl
@[simp] theorem setFlags_regs_e (s : State) (v : Flags) : (s.setFlags v).regs.e = s.regs.e := rfl
@[simp] theorem setFlags_regs_h (s : State) (v : Flags) : (s.setFlags v).regs.h = s.regs.h := rfl
@[simp] theorem setFlags_regs_l (s : State) (v : Flags) : (s.setFlags v).regs.l = s.regs.l := rfl
@[simp] theorem setFlags_regs_sp (s : State) (v : Flags) : (s.setFlags v).regs.sp = s.regs.sp := rfl
@[simp] theorem setFlags_regs_pc (s : State) (v : Flags) : (s.setFlags v).regs.pc = s.regs.pc := rfl

@[simp] theorem setReg8_cfg (s : State) (r : Reg8) (v : Byte) : (s.setReg8 r v).cfg = s.cfg := rfl
@[simp] theorem setReg8_ime (s : State) (r : Reg8) (v : Byte) : (s.setReg8 r v).ime = s.ime := rfl
@[simp] theorem setReg8_halted (s : State) (r : Reg8) (v : Byte) : (s.setReg8 r v).halted = s.halted := rfl
@[simp] theorem setReg8_eiPending (s : State) (r : Reg8) (v : Byte) : (s.setReg8 r v).eiPending = s.eiPending := rfl
@[simp] theorem setReg8_ifReg (s : State) (r : Reg8) (v : Byte) : (s.setReg8 r v).ifReg = s.ifReg := rfl
@[simp] theorem setReg8_ieReg (s : State) (r : Reg8) (v : Byte) : (s.setReg8 r v).ieReg = s.ieReg := rfl
@[simp] theorem setReg8_bank (s : State) (r : Reg8) (v : Byte) : (s.setReg8 r v).bank = s.bank := rfl
@[simp] theorem setReg8_store (s : State) (r : Reg8) (v : Byte) : (s.setReg8 r v).store = s.store := rfl
@[simp] theorem setReg8_timer (s : State) (r : Reg8) (v : Byte) : (s.setReg8 r v).timer = s.timer := rfl
@[simp] theorem setReg8_ppu (s : State) (r : Reg8) (v : Byte) : (s.setReg8 r v).ppu = s.ppu := rfl
@[simp] theorem setReg8_spu (s : State) (r : Reg8) (v : Byte) : (s.setReg8 r v).spu = s.spu := rfl
@[simp] theorem setReg8_events (s : State) (r : Reg8) (v : Byte) : (s.setReg8 r v).events = s.events := rfl
@[simp] theorem setReg8_cycles (s : State) (r : Reg8) (v : Byte) : (s.setReg8 r v).cycles = s.cycles := rfl
@[simp] theorem setReg8_freeIndex (s : State) (r : Reg8) (v : Byte) : (s.setReg8 r v).freeIndex = s.freeIndex := rfl
@[simp] theorem setReg8_regs_f (s : State) (r : Reg8) (v : Byte) : (s.setReg8 r v).regs.f = s.regs.f := by cases r <;> rfl
@[simp] theorem setReg8_regs_sp (s : State) (r : Reg8) (v : Byte) : (s.setReg8 r v).regs.sp = s.regs.sp := by cases r <;> rfl
@[simp] theorem setReg8_regs_pc (s : State) (r : Reg8) (v : Byte) : (s.setReg8 r v).regs.pc = s.regs.pc := by cases r <;> rfl

@[simp] theorem setPair_cfg (s : State) (p : Pair) (v : Word) : (s.setPair p v).cfg = s.cfg := by cases p <;> rfl
@[simp] theorem setPair_ime (s : State) (p : Pair) (v : Word) : (s.setPair p v).ime = s.ime := by cases p <;> rfl
@[simp] theorem setPair_halted (s : State) (p : Pair) (v : Word) : (s.setPair p v).halted = s.halted := by cases p <;> rfl
@[simp] theorem setPair_eiPending (s : State) (p : Pair) (v : Word) : (s.setPair p v).eiPending = s.eiPending := by cases p <;> rfl
@[simp] theorem setPair_ifReg (s : State) (p : Pair) (v : Word) : (s.setPair p v).ifReg = s.ifReg := by cases p <;> rfl
@[simp] theorem setPair_ieReg (s : State) (p : Pair) (v : Word) : (s.setPair p v).ieReg = s.ieReg := by cases p <;> rfl
@[simp] theorem setPair_bank (s : State) (p : Pair) (v : Word) : (s.setPair p v).bank = s.bank := by cases p <;> rfl
@[simp] theorem setPair_store (s : State) (p : Pair) (v : Word) : (s.setPair p v).store = s.store := by cases p <;> rfl
@[simp] theorem setPair_timer (s : State) (p : Pair) (v : Word) : (s.setPair p v).timer = s.timer := by cases p <;> rfl
@[simp] theorem setPair_ppu (s : State) (p : Pair) (v : Word) : (s.setPair p v).ppu = s.ppu := by cases p <;> rfl
@[simp] theorem setPair_spu (s : State) (p : Pair) (v : Word) : (s.setPair p v).spu = s.spu := by cases p <;> rfl
@[simp] theorem setPair_events (s : State) (p : Pair) (v : Word) : (s.setPair p v).events = s.events := by cases p <;> rfl
@[simp] theorem setPair_cycles (s : State) (p : Pair) (v : Word) : (s.setPair p v).cycles = s.cycles := by cases p <;> rfl
@[simp] theorem setPair_freeIndex (s : State) (p : Pair) (v : Word) : (s.setPair p v).freeIndex = s.freeIndex := by cases p <;> rfl
@[simp] theorem setPair_regs_pc (s : State) (p : Pair) (v : Word) : (s.setPair p v).regs.pc = s.regs.pc := by cases p <;> rfl

@[simp] theorem setStackPair_cfg (s : State) (p : StackPair) (v : Word) : (s.setStackPair p v).cfg = s.cfg := by cases p <;> rfl
@[simp] theorem setStackPair_ime (s : State) (p : StackPair) (v : Word) : (s.setStackPair p v).ime = s.ime := by cases p <;> rfl
@[simp] theorem setStackPair_halted (s : State) (p : StackPair) (v : Word) : (s.setStackPair p v).halted = s.halted := by cases p <;> rfl
@[simp] theorem setStackPair_eiPending (s : State) (p : StackPair) (v : Word) : (s.setStackPair p v).eiPending = s.eiPending := by cases p <;> rfl
@[simp] theorem setStackPair_ifReg (s : State) (p : StackPair) (v : Word) : (s.setStackPair p v).ifReg = s.ifReg := by cases p <;> rfl
@[simp] theorem setStackPair_ieReg (s : State) (p : StackPair) (v : Word) : (s.setStackPair p v).ieReg = s.ieReg := by cases p <;> rfl
@[simp] theorem setStackPair_bank (s : State) (p : StackPair) (v : Word) : (s.setStackPair p v).bank = s.bank := by cases p <;> rfl
@[simp] theorem setStackPair_store (s : State) (p : StackPair) (v : Word) : (s.setStackPair p v).store = s.store := by cases p <;> rfl
@[simp] theorem setStackPair_timer (s : State) (p : StackPair) (v : Word) : (s.setStackPair p v).timer = s.timer := by cases p <;> rfl
@[simp] theorem setStackPair_ppu (s : State) (p : StackPair) (v : Word) : (s.setStackPair p v).ppu = s.ppu := by cases p <;> rfl
@[simp] theorem setStackPair_spu (s : State) (p : StackPair) (v : Word) : (s.setStackPair p v).spu = s.spu := by cases p <;> rfl
@[simp] theorem setStackPair_events (s : State) (p : StackPair) (v : Word) : (s.setStackPair p v).events = s.events := by cases p <;> rfl
@[simp] theorem setStackPair_cycles (s : State) (p : StackPair) (v : Word) : (s.setStackPair p v).cycles = s.cycles := by cases p <;> rfl
@[simp] theorem setStackPair_freeIndex (s : State) (p : StackPair) (v : Word) : (s.setStackPair p v).freeIndex = s.freeIndex := by cases p <;> rfl
@[simp] theorem setStackPair_regs_pc (s : State) (p : StackPair) (v : Word) : (s.setStackPair p v).regs.pc = s.regs.pc := by cases p <;> rfl

@[simp] theorem setStackPair_regs_sp (s : State) (p : StackPair) (v : Word) : (s.setStackPair p v).regs.sp = s.regs.sp := by
  cases p <;> rfl
@[simp] theorem setPair_regs_f (s : State) (p : Pair) (v : Word) : (s.setPair p v).regs.f = s.regs.f := by
  cases p <;> rfl

/-! ## Reading a register back -/

theorem reg8_setReg8_self (s : State) (r : Reg8) (v : Byte) : (s.setReg8 r v).reg8 r = v := by cases r <;> rfl

theorem reg8_setReg8_ne (s : State) {q r : Reg8} (h : q ≠ r) (v : Byte) : (s.setReg8 r v).reg8 q = s.reg8 q := by
  cases q <;> cases r <;> first | rfl | exact absurd rfl h

theorem append_high {n m : Nat} (x : BitVec n) (y : BitVec m) : ((x ++ y) >>> m).setWidth n = x := by
  ext i h
  simp [BitVec.getLsbD_append, BitVec.getLsbD_eq_getElem h]

theorem append_low {n m : Nat} (x : BitVec n) (y : BitVec m) : (x ++ y).setWidth m = y := by
  ext i h
  simp [BitVec.getLsbD_append, h]

theorem append_split {n m : Nat} (v : BitVec (n + m)) : (v >>> m).setWidth n ++ v.setWidth m = v := by
  ext i h
  simp only [BitVec.getElem_append, BitVec.getElem_setWidth, BitVec.getLsbD_ushiftRight]
  split
  · exact BitVec.getLsbD_eq_getElem h
  · rw [Nat.add_sub_of_le (by omega)]
    exact BitVec.getLsbD_eq_getElem h

/-- A word is its two bytes. -/
theorem hiByte_append_loByte (v : Word) : hiByte v ++ loByte v = v := append_split (n := 8) (m := 8) v

@[simp] theorem hiByte_append (x y : Byte) : hiByte (x ++ y) = x := append_high x y

@[simp] theorem loByte_append (x y : Byte) : loByte (x ++ y) = y := append_low x y

/-- A pair reads back what was written (10_state.md R21). -/
theorem pair_setPair (s : State) (p : Pair) (v : Word) : (s.setPair p v).pair p = v := by
  cases p <;> first | exact hiByte_append_loByte v | rfl

end State

end Sys2Proof.Machine
end

