-- ==== Sys2Proof/Laws/Bus.lean ====
section
/-! SUPPORT. The bus: the region table read backwards, what a bus write leaves alone, and what a bus read sees after
one. -/

namespace Sys2Proof.Machine

/-! ## The region table -/

/-- The address a region and an offset name, where there is one. -/
def Region.names (m : MemoryMap) : Region → Nat → Prop
  | .romFixed o, n => m.romFixed.has n = true ∧ n = m.romFixed.first + o
  | .romSwitch o, n => m.romSwitch.has n = true ∧ n = m.romSwitch.first + o
  | .vram o, n => m.vram.has n = true ∧ n = m.vram.first + o
  | .eram o, n => m.eram.has n = true ∧ n = m.eram.first + o
  | .wramFixed o, n => m.wramFixed.has n = true ∧ n = m.wramFixed.first + o
  | .wramSwitch o, n => m.wramSwitch.has n = true ∧ n = m.wramSwitch.first + o
  | .oam o, n => m.oam.has n = true ∧ n = m.oam.first + o
  | .unmapped, _ => True
  | .io o, n => m.io.has n = true ∧ n = m.io.first + o
  | .hram o, n => m.hram.has n = true ∧ n = m.hram.first + o
  | .ie, n => n = m.ie

theorem Range.has_iff {r : Range} {n : Nat} : r.has n = true ↔ r.first ≤ n ∧ n ≤ r.last := by
  simp [Range.has]

theorem Range.has_offset {r : Range} {n : Nat} (h : r.has n = true) : n = r.first + (n - r.first) := by
  have := Range.has_iff.1 h
  omega

theorem ite_elim {α : Type} {P : α → Prop} {c : Prop} [Decidable c] {x y : α} (hx : c → P x) (hy : ¬c → P y) :
    P (if c then x else y) := by
  split
  · exact hx ‹_›
  · exact hy ‹_›

theorem regionOf_names (m : MemoryMap) (n : Nat) : (regionOf m n).names m n := by
  unfold regionOf
  iterate 7
    refine ite_elim (P := fun r => Region.names m r n) (fun h => ⟨h, Range.has_offset h⟩) fun _ => ?_
  refine ite_elim (P := fun r => Region.names m r n) (fun _ => trivial) fun _ => ?_
  iterate 2
    refine ite_elim (P := fun r => Region.names m r n) (fun h => ⟨h, Range.has_offset h⟩) fun _ => ?_
  exact ite_elim (P := fun r => Region.names m r n) (fun h => h) fun _ => trivial

theorem region_names (cfg : Config) (a : Word) :
    (region cfg a).names cfg.memoryMap (unecho cfg.memoryMap a.toNat) :=
  regionOf_names _ _

/-- Two addresses in one region at one offset are one place. -/
theorem unecho_eq_of_region_eq {cfg : Config} {a b : Word} (h : region cfg a = region cfg b)
    (hu : region cfg a ≠ .unmapped) : unecho cfg.memoryMap a.toNat = unecho cfg.memoryMap b.toNat := by
  have ha := region_names cfg a
  have hb := region_names cfg b
  rw [← h] at hb
  revert ha hb hu
  cases region cfg a <;> simp only [Region.names] <;> intro hu ha hb <;>
    first | exact absurd rfl hu | omega

theorem Range.has_of_apart {r q : Range} {n : Nat} (h : r.apart q = true) (hq : q.has n = true) :
    r.has n = false := by
  rw [Range.has_iff] at hq
  simp only [Range.apart, Bool.or_eq_true, decide_eq_true_eq] at h
  simp only [Range.has, Bool.and_eq_false_iff, decide_eq_false_iff_not]
  omega

theorem MemoryMap.has_ie {m : MemoryMap} {n : Nat} : Range.has ⟨m.ie, m.ie⟩ n = true ↔ n = m.ie := by
  rw [Range.has_iff]
  show m.ie ≤ n ∧ n ≤ m.ie ↔ n = m.ie
  omega

/-- In a map without overlaps, the region that has an address is the one the priority order picks. -/
theorem regionOf_eq {m : MemoryMap} (hm : m.wellFormed = true) {n : Nat} {p : Region} (hp : p.names m n)
    (hu : p = .unmapped → m.unmapped.has n = true) : regionOf m n = p := by
  have apart : m.ranges.Pairwise fun r q => r.apart q = true := by
    unfold MemoryMap.wellFormed at hm
    simp only [Bool.and_eq_true] at hm
    exact of_decide_eq_true hm.1.1.1.1.1
  simp only [MemoryMap.ranges, List.pairwise_cons, List.mem_cons, List.not_mem_nil, or_false, forall_eq_or_imp,
    forall_eq, IsEmpty.forall_iff, implies_true, List.Pairwise.nil, and_true] at apart
  obtain ⟨h1, h2, h3, h4, h5, h6, h7, h8, h9, h10, h11⟩ := apart
  unfold regionOf
  cases p <;> simp only [Region.names] at hp
  case unmapped =>
    have hp := hu rfl
    simp [*, Range.has_of_apart _ hp]
  case ie =>
    subst hp
    have hi := MemoryMap.has_ie.2 (rfl : m.ie = m.ie)
    simp [*, Range.has_of_apart _ hi]
  all_goals
    obtain ⟨hp, rfl⟩ := hp
    simp [*, Range.has_of_apart _ hp]

theorem region_eq {cfg : Config} (hm : cfg.memoryMap.wellFormed = true) {a : Word} {p : Region}
    (hp : p.names cfg.memoryMap (unecho cfg.memoryMap a.toNat))
    (hu : p = .unmapped → cfg.memoryMap.unmapped.has (unecho cfg.memoryMap a.toNat) = true) : region cfg a = p :=
  regionOf_eq hm hp hu

/-- The echo redirect of `CFG_REF` (20_memory.md R80). -/
theorem unecho_ref (n : Nat) :
    unecho MemoryMap.ref n = if 0xE000 ≤ n ∧ n ≤ 0xFDFF then n - 0x2000 else n := by
  unfold unecho
  simp only [Range.has_iff, MemoryMap.ref]

/-! ## The OAM transfer -/

theorem dmaFold_eq (v : Byte) (l : List Nat) (s : State) :
    ∃ m, l.foldl (dmaByte v) s = s.setStore { s.store with oam := m } := by
  induction l generalizing s with
  | nil => exact ⟨s.store.oam, rfl⟩
  | cons i l ih =>
    obtain ⟨m, hm⟩ := ih (dmaByte v s i)
    exact ⟨m, hm⟩

/-- The OAM transfer changes the sprite table only. -/
theorem oamTransfer_eq (v : Byte) (s : State) : ∃ m, oamTransfer v s = s.setStore { s.store with oam := m } :=
  dmaFold_eq v _ s

/-! ## The mapped SPU registers -/

/-- A port operation changes the synthesizer and moves on to another free value. -/
theorem spuPort_eq (n : Nat) (op : SpuOp) (s : State) :
    spuPort n op s = { s with
      spu := { s.spu with cores := s.spu.cores.modify n fun k => k.port s.cfg op }, freeIndex := s.freeIndex + 1 } :=
  rfl

/-- So does a bus write at a mapped address, which also keeps the byte. -/
theorem spuBusWrite_eq (s : State) (o : Nat) (v : Byte) :
    ∃ cores k, spuBusWrite s o v = { s with
      spu := { s.spu with cores := cores, latch := s.spu.latch.write o v }, freeIndex := k } := by
  unfold spuBusWrite
  dsimp only
  split
  · exact ⟨_, _, rfl⟩
  · split <;> exact ⟨_, _, rfl⟩

/-! ## What a bus write leaves alone -/

/-- A write of the I/O file reaches no further than the pending bits, the bank state, the arrays, the timer, the pixel
pipeline and the synthesizer. -/
theorem ioWrite_eq (s : State) (o : Nat) (v : Byte) (r : IoReg) :
    ∃ f b st t p u k, ioWrite s o v r =
      { s with ifReg := f, bank := b, store := st, timer := t, ppu := p, spu := u, freeIndex := k } := by
  cases r
  case spu =>
    obtain ⟨c, k, h⟩ := spuBusWrite_eq s o v
    exact ⟨_, _, _, _, _, _, _, h⟩
  case dma =>
    obtain ⟨m, hm⟩ := oamTransfer_eq v (s.setStore { s.store with io := s.store.io.write o v })
    exact ⟨_, _, _, _, _, _, _, hm⟩
  all_goals exact ⟨_, _, _, _, _, _, _, rfl⟩

/-- A bus write reaches no further than those and the enable bits. -/
theorem busWrite_eq (s : State) (a : Word) (v : Byte) :
    ∃ f e b st t p u k, busWrite s a v =
      { s with ifReg := f, ieReg := e, bank := b, store := st, timer := t, ppu := p, spu := u, freeIndex := k } := by
  unfold busWrite
  cases region s.cfg a
  case eram => unfold regionWrite; dsimp only; split <;> exact ⟨_, _, _, _, _, _, _, _, rfl⟩
  case io o =>
    obtain ⟨f, b, st, t, p, u, k, h⟩ := ioWrite_eq s o v (ioReg s.cfg o)
    exact ⟨f, _, b, st, t, p, u, k, h⟩
  all_goals exact ⟨_, _, _, _, _, _, _, _, rfl⟩

section
variable (s : State) (a : Word) (v : Byte)

@[simp] theorem busWrite_cfg : (busWrite s a v).cfg = s.cfg := by
  obtain ⟨f, e, b, st, t, p, u, k, h⟩ := busWrite_eq s a v; rw [h]
@[simp] theorem busWrite_regs : (busWrite s a v).regs = s.regs := by
  obtain ⟨f, e, b, st, t, p, u, k, h⟩ := busWrite_eq s a v; rw [h]
@[simp] theorem busWrite_ime : (busWrite s a v).ime = s.ime := by
  obtain ⟨f, e, b, st, t, p, u, k, h⟩ := busWrite_eq s a v; rw [h]
@[simp] theorem busWrite_halted : (busWrite s a v).halted = s.halted := by
  obtain ⟨f, e, b, st, t, p, u, k, h⟩ := busWrite_eq s a v; rw [h]
@[simp] theorem busWrite_eiPending : (busWrite s a v).eiPending = s.eiPending := by
  obtain ⟨f, e, b, st, t, p, u, k, h⟩ := busWrite_eq s a v; rw [h]
@[simp] theorem busWrite_events : (busWrite s a v).events = s.events := by
  obtain ⟨f, e, b, st, t, p, u, k, h⟩ := busWrite_eq s a v; rw [h]
@[simp] theorem busWrite_cycles : (busWrite s a v).cycles = s.cycles := by
  obtain ⟨f, e, b, st, t, p, u, k, h⟩ := busWrite_eq s a v; rw [h]

theorem writeLcdc_fb (p : Ppu) : (p.writeLcdc v).fb = p.fb := by
  unfold Ppu.writeLcdc
  dsimp only
  split
  · rfl
  · split <;> rfl

/-- The ROM image, the gated counter's prescaler and the frame buffer are out of the reach of a bus write. -/
theorem busWrite_hidden :
    (busWrite s a v).store.rom = s.store.rom ∧ (busWrite s a v).store.romBanks = s.store.romBanks ∧
    (busWrite s a v).timer.timaSub = s.timer.timaSub ∧ (busWrite s a v).ppu.fb = s.ppu.fb := by
  have io (o : Nat) (r : IoReg) : (ioWrite s o v r).store.rom = s.store.rom ∧
      (ioWrite s o v r).store.romBanks = s.store.romBanks ∧ (ioWrite s o v r).timer.timaSub = s.timer.timaSub ∧
      (ioWrite s o v r).ppu.fb = s.ppu.fb := by
    cases r
    case lcdc => exact ⟨rfl, rfl, rfl, writeLcdc_fb v s.ppu⟩
    case spu =>
      obtain ⟨c, k, h⟩ := spuBusWrite_eq s o v
      simp only [ioWrite, h, and_self]
    case dma =>
      obtain ⟨m, hm⟩ := oamTransfer_eq v (s.setStore { s.store with io := s.store.io.write o v })
      simp only [ioWrite, hm, State.setStore_store, State.setStore_timer, State.setStore_ppu, and_self]
    all_goals exact ⟨rfl, rfl, rfl, rfl⟩
  unfold busWrite
  cases region s.cfg a
  case eram => unfold regionWrite; dsimp only; split <;> exact ⟨rfl, rfl, rfl, rfl⟩
  case io o => exact io o _
  all_goals exact ⟨rfl, rfl, rfl, rfl⟩

/-- A bus write at an address that is not mapped to the synthesizer leaves it alone. -/
theorem busWrite_spu (h : spuMapped s.cfg a = false) :
    (busWrite s a v).spu = s.spu ∧ (busWrite s a v).freeIndex = s.freeIndex := by
  have io (o : Nat) (r : IoReg) (hr : r ≠ .spu) :
      (ioWrite s o v r).spu = s.spu ∧ (ioWrite s o v r).freeIndex = s.freeIndex := by
    cases r
    case spu => exact absurd rfl hr
    case dma =>
      obtain ⟨m, hm⟩ := oamTransfer_eq v (s.setStore { s.store with io := s.store.io.write o v })
      simp only [ioWrite, hm, State.setStore_spu, State.setStore_freeIndex, and_self]
    all_goals exact ⟨rfl, rfl⟩
  unfold spuMapped at h
  unfold busWrite
  generalize region s.cfg a = p at h
  cases p
  case eram => unfold regionWrite; dsimp only; split <;> exact ⟨rfl, rfl⟩
  case io o => exact io o _ (of_decide_eq_false h)
  all_goals exact ⟨rfl, rfl⟩

/-- A push leaves the synthesizer alone where neither address is mapped to it. -/
theorem push16_spu (v : Word) (h : ∀ a ∈ pushAddresses s, spuMapped s.cfg a = false) :
    (push16 v s).spu = s.spu ∧ (push16 v s).freeIndex = s.freeIndex := by
  unfold push16
  have h1 := busWrite_spu (s.setSp (s.regs.sp - 1#16)) (s.regs.sp - 1#16) (hiByte v) (h _ (by simp [pushAddresses]))
  have e : s.regs.sp - 1#16 - 1#16 = s.regs.sp - 2#16 := by
    rw [BitVec.sub_sub]
    rfl
  have h2 := busWrite_spu ((busWrite (s.setSp (s.regs.sp - 1#16)) (s.regs.sp - 1#16) (hiByte v)).setSp
    (s.regs.sp - 2#16)) (s.regs.sp - 2#16) (loByte v) (by
      rw [State.setSp_cfg, busWrite_cfg]
      exact h _ (by simp [pushAddresses]))
  simp only [State.setSp_regs_sp, busWrite_regs, e]
  exact ⟨h2.1.trans h1.1, h2.2.trans h1.2⟩

end

/-! ## What a bus read depends on -/

/-- The parts of the state a bus read looks at. -/
theorem busRead_congr {s t : State} (b : Word) (hc : t.cfg = s.cfg) (hf : t.ifReg = s.ifReg) (he : t.ieReg = s.ieReg)
    (hb : t.bank = s.bank) (hs : t.store = s.store) (ht : t.timer = s.timer) (hp : t.ppu = s.ppu)
    (hk : t.freeIndex = s.freeIndex) : busRead t b = busRead s b := by
  unfold busRead regionRead ioRead romIndex eramIndex
  rw [hc, hf, he, hb, hs, ht, hp, hk]

@[simp] theorem busRead_setRegs (s : State) (g : Regs) (b : Word) : busRead (s.setRegs g) b = busRead s b := rfl
@[simp] theorem busRead_setPc (s : State) (v b : Word) : busRead (s.setPc v) b = busRead s b := rfl
@[simp] theorem busRead_setSp (s : State) (v b : Word) : busRead (s.setSp v) b = busRead s b := rfl
@[simp] theorem busRead_setA (s : State) (v : Byte) (b : Word) : busRead (s.setA v) b = busRead s b := rfl
@[simp] theorem busRead_setF (s : State) (v : Byte) (b : Word) : busRead (s.setF v) b = busRead s b := rfl
@[simp] theorem busRead_setFlags (s : State) (v : Flags) (b : Word) : busRead (s.setFlags v) b = busRead s b := rfl
@[simp] theorem busRead_setReg8 (s : State) (r : Reg8) (v : Byte) (b : Word) :
    busRead (s.setReg8 r v) b = busRead s b := rfl
@[simp] theorem busRead_setHl (s : State) (v b : Word) : busRead (s.setHl v) b = busRead s b := rfl
@[simp] theorem busRead_setIme (s : State) (v : Bool) (b : Word) : busRead (s.setIme v) b = busRead s b := rfl
@[simp] theorem busRead_setHalted (s : State) (v : Bool) (b : Word) : busRead (s.setHalted v) b = busRead s b := rfl
@[simp] theorem busRead_setEiPending (s : State) (v : Bool) (b : Word) :
    busRead (s.setEiPending v) b = busRead s b := rfl
@[simp] theorem busRead_setSpu (s : State) (v : Spu) (b : Word) : busRead (s.setSpu v) b = busRead s b := rfl
@[simp] theorem busRead_logEvent (s : State) (v : Event) (b : Word) : busRead (s.logEvent v) b = busRead s b := rfl
@[simp] theorem busRead_setCycles (s : State) (n : Nat) (b : Word) : busRead (s.setCycles n) b = busRead s b := rfl
@[simp] theorem busRead_charge (s : State) (n : Nat) (b : Word) : busRead (s.charge n) b = busRead s b := rfl
@[simp] theorem busRead_setPair (s : State) (p : Pair) (v b : Word) : busRead (s.setPair p v) b = busRead s b := by
  cases p <;> rfl
@[simp] theorem busRead_setStackPair (s : State) (p : StackPair) (v b : Word) :
    busRead (s.setStackPair p v) b = busRead s b := by
  cases p <;> rfl

/-- A read outside the sprite table does not see it. -/
theorem busRead_setOam (s : State) (m : Memory) {b : Word} (h : ∀ o, region s.cfg b ≠ .oam o) :
    busRead (s.setStore { s.store with oam := m }) b = busRead s b := by
  unfold busRead
  rw [State.setStore_cfg]
  generalize region s.cfg b = r at h
  cases r
  case oam o => exact absurd rfl (h o)
  all_goals rfl

/-! ## A bus read after a bus write -/

/-- The offset of a register of the I/O file. -/
def IoReg.at (cfg : Config) : IoReg → Nat → Prop
  | .div, o => o = 0x04
  | .tima, o => o = 0x05
  | .tma, o => o = 0x06
  | .tac, o => o = 0x07
  | .intFlag, o => o = 0x0F
  | .lcdc, o => o = 0x40
  | .stat, o => o = 0x41
  | .scy, o => o = 0x42
  | .scx, o => o = 0x43
  | .ly, o => o = 0x44
  | .lyc, o => o = 0x45
  | .dma, o => o = 0x46
  | .bgp, o => o = 0x47
  | .obp0, o => o = 0x48
  | .obp1, o => o = 0x49
  | .wy, o => o = 0x4A
  | .wx, o => o = 0x4B
  | .romb, o => cfg.memoryMap.io.first + o = cfg.ioRomb.toNat
  | .ramb, o => cfg.memoryMap.io.first + o = cfg.ioRamb.toNat
  | .ramg, o => cfg.memoryMap.io.first + o = cfg.ioRamg.toNat
  | .spu, o => (cfg.spuRow o).isSome = true
  | .plain, _ => True

theorem ioReg_at (cfg : Config) (o : Nat) : (ioReg cfg o).at cfg o := by
  unfold ioReg
  iterate 21
    refine ite_elim (P := fun r => IoReg.at cfg r o) ?_ ?_
    · exact fun h => h
    intro _
  trivial

/-- The registers of the I/O file other than the plain cells and the SPU's stand at one address each. -/
theorem ioReg_inj {cfg : Config} {o k : Nat} (h : ioReg cfg o = ioReg cfg k) (hp : ioReg cfg o ≠ .plain)
    (hs : ioReg cfg o ≠ .spu) : o = k := by
  have h1 := ioReg_at cfg o
  have h2 := ioReg_at cfg k
  rw [← h] at h2
  revert hp hs h1 h2
  cases ioReg cfg o <;> simp only [IoReg.at] <;> intro hp hs h1 h2 <;>
    first | exact absurd rfl hp | exact absurd rfl hs | omega

theorem writeLcdc_same (p : Ppu) (v : Byte) :
    (p.writeLcdc v).lcdc = v ∧ (p.writeLcdc v).stat = p.stat ∧ (p.writeLcdc v).scy = p.scy ∧
    (p.writeLcdc v).scx = p.scx ∧ (p.writeLcdc v).lyc = p.lyc ∧ (p.writeLcdc v).bgp = p.bgp ∧
    (p.writeLcdc v).obp0 = p.obp0 ∧ (p.writeLcdc v).obp1 = p.obp1 ∧ (p.writeLcdc v).wy = p.wy ∧
    (p.writeLcdc v).wx = p.wx := by
  unfold Ppu.writeLcdc
  dsimp only
  split
  · simp [Ppu.disable]
  · split <;> simp [Ppu.enable]

/-- A write of a register of the I/O file is not seen by a read of another register of it that it does not reach. -/
theorem ioRead_ioWrite_ne (s : State) {o k : Nat} {r q : IoReg} (v : Byte) (hk : k ≠ o)
    (hs : r ≠ .plain → r ≠ .spu → q ≠ r) (hl : r = .lcdc → q ≠ .stat ∧ q ≠ .ly) (hy : r = .lyc → q ≠ .stat)
    (hp : r = .spu → q ≠ .spu) : ioRead (ioWrite s o v r) k q = ioRead s k q := by
  have hw := writeLcdc_same s.ppu v
  have plain : ioRead (s.setStore { s.store with io := s.store.io.write o v }) k q = ioRead s k q := by
    cases q
    case plain => exact Memory.read_write_ne _ hk v
    case dma => exact Memory.read_write_ne _ hk v
    all_goals rfl
  cases r
  case plain => exact plain
  case dma =>
    obtain ⟨m, hm⟩ := oamTransfer_eq v (s.setStore { s.store with io := s.store.io.write o v })
    refine Eq.trans ?_ plain
    unfold ioWrite
    dsimp only
    rw [hm]
    cases q <;> rfl
  case spu =>
    obtain ⟨c, j, h⟩ := spuBusWrite_eq s o v
    unfold ioWrite
    dsimp only
    rw [h]
    cases q
    case spu => exact absurd rfl (hp rfl)
    all_goals rfl
  case lcdc => cases q <;> simp_all [ioRead, ioWrite]
  case lyc =>
    cases q
    case stat => exact absurd rfl (hy rfl)
    case lyc => exact absurd rfl (hs (by simp) (by simp))
    all_goals rfl
  all_goals
    cases q
    all_goals first | rfl | exact absurd rfl (hs (by simp) (by simp))

/-- A write of a register of the I/O file is not seen by a read of a place that is neither its own nor one it
reaches. -/
theorem regionRead_ioWrite_ne (s : State) {o : Nat} {p : Region} (v : Byte) (hn : p ≠ .io o)
    (hr : (ioReg s.cfg o).reaches s.cfg p = false) :
    regionRead (ioWrite s o v (ioReg s.cfg o)) p = regionRead s p := by
  have hc : (ioWrite s o v (ioReg s.cfg o)).cfg = s.cfg := by
    obtain ⟨f, b, st, t, p, u, k, h⟩ := ioWrite_eq s o v (ioReg s.cfg o)
    rw [h]
  cases p
  case io k =>
    have hk : k ≠ o := fun he => hn (by rw [he])
    show ioRead _ k (ioReg (ioWrite s o v (ioReg s.cfg o)).cfg k) = ioRead s k (ioReg s.cfg k)
    rw [hc]
    refine ioRead_ioWrite_ne s v hk (fun hp hq he => hk (ioReg_inj he (he ▸ hp) (he ▸ hq))) (fun h => ?_) (fun h => ?_)
      (fun h => ?_) <;>
    · rw [h] at hr
      simpa [IoReg.reaches] using hr
  all_goals
    generalize ioReg s.cfg o = r at hr
    cases r
    case dma =>
      obtain ⟨m, hm⟩ := oamTransfer_eq v (s.setStore { s.store with io := s.store.io.write o v })
      unfold ioWrite
      dsimp only
      rw [hm]
      first | (cases hr; done) | rfl
    case spu =>
      obtain ⟨c, j, h⟩ := spuBusWrite_eq s o v
      unfold ioWrite
      dsimp only
      rw [h]
      rfl
    all_goals first | (cases hr; done) | rfl

/-- A bus write is not seen by a read of an address it does not reach. -/
theorem busRead_busWrite_ne (s : State) {a b : Word} (v : Byte) (h : reaches s.cfg a b = false) :
    busRead (busWrite s a v) b = busRead s b := by
  unfold reaches at h
  rw [Bool.or_eq_false_iff, decide_eq_false_iff_not] at h
  obtain ⟨hn, hr⟩ := h
  have hne : region s.cfg a ≠ .unmapped → region s.cfg b ≠ region s.cfg a := fun hu he =>
    hn (unecho_eq_of_region_eq he.symm hu)
  unfold busRead
  rw [busWrite_cfg]
  unfold busWrite
  generalize region s.cfg a = p at hr hne
  generalize region s.cfg b = q at hr hne
  cases p
  case io o => exact regionRead_ioWrite_ne s v (hne (by simp)) hr
  case eram o =>
    unfold regionWrite
    dsimp only
    by_cases hg : s.cfg.ramBanks = 0 ∨ s.bank.ramEnable = false
    · rw [if_pos hg]
    · rw [if_neg hg]
      cases q
      case eram k =>
        have hk : k ≠ o := fun he => hne (by simp) (by rw [he])
        have hr0 : ¬s.cfg.ramBanks = 0 := fun h0 => hg (.inl h0)
        show (if s.cfg.ramBanks = 0 then 0#8 else (s.store.eram.write (eramIndex s o) v).read (eramIndex s k)) =
          if s.cfg.ramBanks = 0 then 0#8 else s.store.eram.read (eramIndex s k)
        rw [if_neg hr0, if_neg hr0]
        refine Memory.read_write_ne _ (fun he => hk ?_) v
        have : eramIndex s k = eramIndex s o := he
        unfold eramIndex at this
        omega
      all_goals rfl
  case ie =>
    cases q
    case ie => exact absurd rfl (hne (by simp))
    all_goals rfl
  case romFixed => rfl
  case romSwitch => rfl
  case unmapped => rfl
  all_goals
    cases q
    all_goals first
      | rfl
      | exact Memory.read_write_ne _ (fun he => hne (by simp) (by rw [he])) v
      | exact Store.readWram_writeWram_ne _ (.inl (by decide)) v
      | exact Store.readWram_writeWram_ne _ (.inr fun he => hne (by simp) (by rw [he])) v

end Sys2Proof.Machine
end

