-- ==== Sys2Proof/Laws/Decode.lean ====
section
/-! SUPPORT. The decoder by the length of an instruction, and one lemma that says what it reads from three bytes. -/

namespace Sys2Proof

open Machine

/-- Decoding a string that is long enough. -/
theorem decode_cons {op : Byte} {rest : List Byte} (h : opcodeLength op ≤ rest.length + 1) :
    decode (op :: rest) =
      .ok (decodeBytes op (rest.getD 0 0#8) (rest.getD 1 0#8), (op :: rest).drop (opcodeLength op)) :=
  if_neg (Nat.not_lt.2 h)

theorem decode_one {op : Byte} (rest : List Byte) (h : opcodeLength op = 1) :
    decode (op :: rest) = .ok (decodeBytes op (rest.getD 0 0#8) (rest.getD 1 0#8), rest) := by
  rw [decode_cons (by omega), h]
  rfl

theorem decode_two {op b1 : Byte} (rest : List Byte) (h : opcodeLength op = 2) :
    decode (op :: b1 :: rest) = .ok (decodeBytes op b1 (rest.getD 0 0#8), rest) := by
  rw [decode_cons (by simp; omega), h]
  rfl

theorem decode_three {op b1 b2 : Byte} (rest : List Byte) (h : opcodeLength op = 3) :
    decode (op :: b1 :: b2 :: rest) = .ok (decodeBytes op b1 b2, rest) := by
  rw [decode_cons (by simp; omega), h]
  rfl

/-- The table of `CFG_REF` selects what `decodeBytes` reads. -/
theorem InstrTable.instr_ref (op b1 b2 : Byte) : InstrTable.ref.instr op b1 b2 = decodeBytes op b1 b2 := by
  show (if op = 0xCB#8 then decodeCb b1 else decodeBytes op b1 b2) = decodeBytes op b1 b2
  split
  · subst op
    rfl
  · rfl

theorem InstrTable.length_ref (op : Byte) : InstrTable.ref.length op = opcodeLength op := rfl

theorem opcodeLength_bounds (op : Byte) : 1 ≤ opcodeLength op ∧ opcodeLength op ≤ 3 := by
  revert op
  decide

/-- The bytes of an operand word. -/
theorem wordBytes_append (b1 b2 : Byte) : wordBytes (b2 ++ b1) = [b1, b2] :=
  congrArg₂ (fun x y => [x, y]) (State.append_low b2 b1) (State.append_high b2 b1)

/-- A word is the append of its bytes. -/
theorem append_wordBytes (v : Word) : ((v >>> 8).setWidth 8 : Byte) ++ (v.setWidth 8 : Byte) = v :=
  State.append_split (n := 8) (m := 8) v

theorem byte_cases {P : Byte → Prop} (h : ∀ n, n < 256 → P (BitVec.ofNat 8 n)) (b : Byte) : P b := by
  have := h b.toNat b.isLt
  rwa [BitVec.ofNat_toNat, BitVec.setWidth_eq] at this

theorem encode_decodeCb (sub : Byte) : encode (decodeCb sub) = [0xCB#8, sub] ∧ (decodeCb sub).wellFormed = true := by
  revert sub
  decide

/-- What the decoder reads from three bytes is well formed and has them, as many as the length, for its encoding. -/
theorem encode_decodeBytes (op b1 b2 : Byte) :
    encode (decodeBytes op b1 b2) = [op, b1, b2].take (opcodeLength op) ∧ (decodeBytes op b1 b2).wellFormed = true := by
  by_cases hcb : op = 0xCB#8
  · subst hcb
    exact encode_decodeCb b1
  · revert op
    refine byte_cases fun n hn hcb => ?_
    interval_cases n
    all_goals first
      | exact absurd rfl hcb
      | exact ⟨rfl, rfl⟩
      | exact ⟨congrArg (List.cons _) (wordBytes_append b1 b2), rfl⟩

end Sys2Proof
end

