-- ==== Sys2Proof/Laws/Forms.lean ====
section
/-! SUPPORT. The 501 constructors of `Instr` seen as 28 indexed forms and the instructions that stand alone, so that a
claim about every instruction is proved once per form; and the meaning of every indexed form as one operation. -/

namespace Sys2Proof

/-- Every instruction is an indexed form or stands alone. Use it as `cases i using Instr.byForm`. -/
theorem Instr.byForm {P : Instr → Prop}
    (ldRegReg : ∀ (r : Reg8) (r' : Reg8), P (Instr.ldRegReg r r'))
    (ldRegMem : ∀ (r : Reg8), P (Instr.ldRegMem r))
    (ldMemReg : ∀ (r : Reg8), P (Instr.ldMemReg r))
    (ldRegImm : ∀ (r : Reg8) (v : Byte), P (Instr.ldRegImm r v))
    (ldPairImm : ∀ (p : Pair) (w : Word), P (Instr.ldPairImm p w))
    (push : ∀ (p : StackPair), P (Instr.push p))
    (pop : ∀ (p : StackPair), P (Instr.pop p))
    (aluReg : ∀ (op : AluOp) (r : Reg8), P (Instr.aluReg op r))
    (aluMem : ∀ (op : AluOp), P (Instr.aluMem op))
    (aluImm : ∀ (op : AluOp) (v : Byte), P (Instr.aluImm op v))
    (incReg : ∀ (r : Reg8), P (Instr.incReg r))
    (decReg : ∀ (r : Reg8), P (Instr.decReg r))
    (addHl : ∀ (p : Pair), P (Instr.addHl p))
    (incPair : ∀ (p : Pair), P (Instr.incPair p))
    (decPair : ∀ (p : Pair), P (Instr.decPair p))
    (rotReg : ∀ (op : RotOp) (r : Reg8), P (Instr.rotReg op r))
    (rotMem : ∀ (op : RotOp), P (Instr.rotMem op))
    (bitReg : ∀ (i : Index3) (r : Reg8), P (Instr.bitReg i r))
    (bitMem : ∀ (i : Index3), P (Instr.bitMem i))
    (resReg : ∀ (i : Index3) (r : Reg8), P (Instr.resReg i r))
    (resMem : ∀ (i : Index3), P (Instr.resMem i))
    (setReg : ∀ (i : Index3) (r : Reg8), P (Instr.setReg i r))
    (setMem : ∀ (i : Index3), P (Instr.setMem i))
    (jpCond : ∀ (cc : Cond) (w : Word), P (Instr.jpCond cc w))
    (jrCond : ∀ (cc : Cond) (v : Byte), P (Instr.jrCond cc v))
    (callCond : ∀ (cc : Cond) (w : Word), P (Instr.callCond cc w))
    (retCond : ∀ (cc : Cond), P (Instr.retCond cc))
    (rst : ∀ (i : Index3), P (Instr.rst i))
    (nop : P .nop)
    (ld_atBC_A : P .ld_atBC_A)
    (rlca : P .rlca)
    (ld_atA16_SP : ∀ a16 : Word, P (.ld_atA16_SP a16))
    (ld_A_atBC : P .ld_A_atBC)
    (rrca : P .rrca)
    (unknown : ∀ op : Byte, P (.unknown op))
    (ld_atDE_A : P .ld_atDE_A)
    (rla : P .rla)
    (jr_e8 : ∀ e8 : Byte, P (.jr_e8 e8))
    (ld_A_atDE : P .ld_A_atDE)
    (rra : P .rra)
    (ld_atHLinc_A : P .ld_atHLinc_A)
    (daa : P .daa)
    (ld_A_atHLinc : P .ld_A_atHLinc)
    (cpl : P .cpl)
    (ld_atHLdec_A : P .ld_atHLdec_A)
    (inc_atHL : P .inc_atHL)
    (dec_atHL : P .dec_atHL)
    (ld_atHL_d8 : ∀ d8 : Byte, P (.ld_atHL_d8 d8))
    (scf : P .scf)
    (ld_A_atHLdec : P .ld_A_atHLdec)
    (ccf : P .ccf)
    (halt : P .halt)
    (jp_a16 : ∀ a16 : Word, P (.jp_a16 a16))
    (ret : P .ret)
    (prefixCb : ∀ sub : Byte, P (.prefixCb sub))
    (call_a16 : ∀ a16 : Word, P (.call_a16 a16))
    (reti : P .reti)
    (ldh_atA8_A : ∀ a8 : Byte, P (.ldh_atA8_A a8))
    (ld_atC_A : P .ld_atC_A)
    (add_SP_e8 : ∀ e8 : Byte, P (.add_SP_e8 e8))
    (jp_HL : P .jp_HL)
    (ld_atA16_A : ∀ a16 : Word, P (.ld_atA16_A a16))
    (ldh_A_atA8 : ∀ a8 : Byte, P (.ldh_A_atA8 a8))
    (ld_A_atC : P .ld_A_atC)
    (di : P .di)
    (ld_HL_SPe8 : ∀ e8 : Byte, P (.ld_HL_SPe8 e8))
    (ld_SP_HL : P .ld_SP_HL)
    (ld_A_atA16 : ∀ a16 : Word, P (.ld_A_atA16 a16))
    (ei : P .ei)
    (i : Instr) : P i := by
  cases i
  case ld_B_B => exact ldRegReg .b .b
  case ld_B_C => exact ldRegReg .b .c
  case ld_B_D => exact ldRegReg .b .d
  case ld_B_E => exact ldRegReg .b .e
  case ld_B_H => exact ldRegReg .b .h
  case ld_B_L => exact ldRegReg .b .l
  case ld_B_A => exact ldRegReg .b .a
  case ld_C_B => exact ldRegReg .c .b
  case ld_C_C => exact ldRegReg .c .c
  case ld_C_D => exact ldRegReg .c .d
  case ld_C_E => exact ldRegReg .c .e
  case ld_C_H => exact ldRegReg .c .h
  case ld_C_L => exact ldRegReg .c .l
  case ld_C_A => exact ldRegReg .c .a
  case ld_D_B => exact ldRegReg .d .b
  case ld_D_C => exact ldRegReg .d .c
  case ld_D_D => exact ldRegReg .d .d
  case ld_D_E => exact ldRegReg .d .e
  case ld_D_H => exact ldRegReg .d .h
  case ld_D_L => exact ldRegReg .d .l
  case ld_D_A => exact ldRegReg .d .a
  case ld_E_B => exact ldRegReg .e .b
  case ld_E_C => exact ldRegReg .e .c
  case ld_E_D => exact ldRegReg .e .d
  case ld_E_E => exact ldRegReg .e .e
  case ld_E_H => exact ldRegReg .e .h
  case ld_E_L => exact ldRegReg .e .l
  case ld_E_A => exact ldRegReg .e .a
  case ld_H_B => exact ldRegReg .h .b
  case ld_H_C => exact ldRegReg .h .c
  case ld_H_D => exact ldRegReg .h .d
  case ld_H_E => exact ldRegReg .h .e
  case ld_H_H => exact ldRegReg .h .h
  case ld_H_L => exact ldRegReg .h .l
  case ld_H_A => exact ldRegReg .h .a
  case ld_L_B => exact ldRegReg .l .b
  case ld_L_C => exact ldRegReg .l .c
  case ld_L_D => exact ldRegReg .l .d
  case ld_L_E => exact ldRegReg .l .e
  case ld_L_H => exact ldRegReg .l .h
  case ld_L_L => exact ldRegReg .l .l
  case ld_L_A => exact ldRegReg .l .a
  case ld_A_B => exact ldRegReg .a .b
  case ld_A_C => exact ldRegReg .a .c
  case ld_A_D => exact ldRegReg .a .d
  case ld_A_E => exact ldRegReg .a .e
  case ld_A_H => exact ldRegReg .a .h
  case ld_A_L => exact ldRegReg .a .l
  case ld_A_A => exact ldRegReg .a .a
  case ld_B_atHL => exact ldRegMem .b
  case ld_C_atHL => exact ldRegMem .c
  case ld_D_atHL => exact ldRegMem .d
  case ld_E_atHL => exact ldRegMem .e
  case ld_H_atHL => exact ldRegMem .h
  case ld_L_atHL => exact ldRegMem .l
  case ld_A_atHL => exact ldRegMem .a
  case ld_atHL_B => exact ldMemReg .b
  case ld_atHL_C => exact ldMemReg .c
  case ld_atHL_D => exact ldMemReg .d
  case ld_atHL_E => exact ldMemReg .e
  case ld_atHL_H => exact ldMemReg .h
  case ld_atHL_L => exact ldMemReg .l
  case ld_atHL_A => exact ldMemReg .a
  case ld_B_d8 v => exact ldRegImm .b v
  case ld_C_d8 v => exact ldRegImm .c v
  case ld_D_d8 v => exact ldRegImm .d v
  case ld_E_d8 v => exact ldRegImm .e v
  case ld_H_d8 v => exact ldRegImm .h v
  case ld_L_d8 v => exact ldRegImm .l v
  case ld_A_d8 v => exact ldRegImm .a v
  case ld_BC_d16 v => exact ldPairImm .bc v
  case ld_DE_d16 v => exact ldPairImm .de v
  case ld_HL_d16 v => exact ldPairImm .hl v
  case ld_SP_d16 v => exact ldPairImm .sp v
  case push_BC => exact push .bc
  case push_DE => exact push .de
  case push_HL => exact push .hl
  case push_AF => exact push .af
  case pop_BC => exact pop .bc
  case pop_DE => exact pop .de
  case pop_HL => exact pop .hl
  case pop_AF => exact pop .af
  case add_A_B => exact aluReg .add .b
  case add_A_C => exact aluReg .add .c
  case add_A_D => exact aluReg .add .d
  case add_A_E => exact aluReg .add .e
  case add_A_H => exact aluReg .add .h
  case add_A_L => exact aluReg .add .l
  case add_A_A => exact aluReg .add .a
  case adc_A_B => exact aluReg .adc .b
  case adc_A_C => exact aluReg .adc .c
  case adc_A_D => exact aluReg .adc .d
  case adc_A_E => exact aluReg .adc .e
  case adc_A_H => exact aluReg .adc .h
  case adc_A_L => exact aluReg .adc .l
  case adc_A_A => exact aluReg .adc .a
  case sub_B => exact aluReg .sub .b
  case sub_C => exact aluReg .sub .c
  case sub_D => exact aluReg .sub .d
  case sub_E => exact aluReg .sub .e
  case sub_H => exact aluReg .sub .h
  case sub_L => exact aluReg .sub .l
  case sub_A => exact aluReg .sub .a
  case sbc_A_B => exact aluReg .sbc .b
  case sbc_A_C => exact aluReg .sbc .c
  case sbc_A_D => exact aluReg .sbc .d
  case sbc_A_E => exact aluReg .sbc .e
  case sbc_A_H => exact aluReg .sbc .h
  case sbc_A_L => exact aluReg .sbc .l
  case sbc_A_A => exact aluReg .sbc .a
  case and_B => exact aluReg .and .b
  case and_C => exact aluReg .and .c
  case and_D => exact aluReg .and .d
  case and_E => exact aluReg .and .e
  case and_H => exact aluReg .and .h
  case and_L => exact aluReg .and .l
  case and_A => exact aluReg .and .a
  case xor_B => exact aluReg .xor .b
  case xor_C => exact aluReg .xor .c
  case xor_D => exact aluReg .xor .d
  case xor_E => exact aluReg .xor .e
  case xor_H => exact aluReg .xor .h
  case xor_L => exact aluReg .xor .l
  case xor_A => exact aluReg .xor .a
  case or_B => exact aluReg .or .b
  case or_C => exact aluReg .or .c
  case or_D => exact aluReg .or .d
  case or_E => exact aluReg .or .e
  case or_H => exact aluReg .or .h
  case or_L => exact aluReg .or .l
  case or_A => exact aluReg .or .a
  case cp_B => exact aluReg .cp .b
  case cp_C => exact aluReg .cp .c
  case cp_D => exact aluReg .cp .d
  case cp_E => exact aluReg .cp .e
  case cp_H => exact aluReg .cp .h
  case cp_L => exact aluReg .cp .l
  case cp_A => exact aluReg .cp .a
  case add_A_atHL => exact aluMem .add
  case adc_A_atHL => exact aluMem .adc
  case sub_atHL => exact aluMem .sub
  case sbc_A_atHL => exact aluMem .sbc
  case and_atHL => exact aluMem .and
  case xor_atHL => exact aluMem .xor
  case or_atHL => exact aluMem .or
  case cp_atHL => exact aluMem .cp
  case add_A_d8 v => exact aluImm .add v
  case adc_A_d8 v => exact aluImm .adc v
  case sub_d8 v => exact aluImm .sub v
  case sbc_A_d8 v => exact aluImm .sbc v
  case and_d8 v => exact aluImm .and v
  case xor_d8 v => exact aluImm .xor v
  case or_d8 v => exact aluImm .or v
  case cp_d8 v => exact aluImm .cp v
  case inc_B => exact incReg .b
  case inc_C => exact incReg .c
  case inc_D => exact incReg .d
  case inc_E => exact incReg .e
  case inc_H => exact incReg .h
  case inc_L => exact incReg .l
  case inc_A => exact incReg .a
  case dec_B => exact decReg .b
  case dec_C => exact decReg .c
  case dec_D => exact decReg .d
  case dec_E => exact decReg .e
  case dec_H => exact decReg .h
  case dec_L => exact decReg .l
  case dec_A => exact decReg .a
  case add_HL_BC => exact addHl .bc
  case add_HL_DE => exact addHl .de
  case add_HL_HL => exact addHl .hl
  case add_HL_SP => exact addHl .sp
  case inc_BC => exact incPair .bc
  case inc_DE => exact incPair .de
  case inc_HL => exact incPair .hl
  case inc_SP => exact incPair .sp
  case dec_BC => exact decPair .bc
  case dec_DE => exact decPair .de
  case dec_HL => exact decPair .hl
  case dec_SP => exact decPair .sp
  case rlc_B => exact rotReg .rlc .b
  case rlc_C => exact rotReg .rlc .c
  case rlc_D => exact rotReg .rlc .d
  case rlc_E => exact rotReg .rlc .e
  case rlc_H => exact rotReg .rlc .h
  case rlc_L => exact rotReg .rlc .l
  case rlc_A => exact rotReg .rlc .a
  case rrc_B => exact rotReg .rrc .b
  case rrc_C => exact rotReg .rrc .c
  case rrc_D => exact rotReg .rrc .d
  case rrc_E => exact rotReg .rrc .e
  case rrc_H => exact rotReg .rrc .h
  case rrc_L => exact rotReg .rrc .l
  case rrc_A => exact rotReg .rrc .a
  case rl_B => exact rotReg .rl .b
  case rl_C => exact rotReg .rl .c
  case rl_D => exact rotReg .rl .d
  case rl_E => exact rotReg .rl .e
  case rl_H => exact rotReg .rl .h
  case rl_L => exact rotReg .rl .l
  case rl_A => exact rotReg .rl .a
  case rr_B => exact rotReg .rr .b
  case rr_C => exact rotReg .rr .c
  case rr_D => exact rotReg .rr .d
  case rr_E => exact rotReg .rr .e
  case rr_H => exact rotReg .rr .h
  case rr_L => exact rotReg .rr .l
  case rr_A => exact rotReg .rr .a
  case sla_B => exact rotReg .sla .b
  case sla_C => exact rotReg .sla .c
  case sla_D => exact rotReg .sla .d
  case sla_E => exact rotReg .sla .e
  case sla_H => exact rotReg .sla .h
  case sla_L => exact rotReg .sla .l
  case sla_A => exact rotReg .sla .a
  case sra_B => exact rotReg .sra .b
  case sra_C => exact rotReg .sra .c
  case sra_D => exact rotReg .sra .d
  case sra_E => exact rotReg .sra .e
  case sra_H => exact rotReg .sra .h
  case sra_L => exact rotReg .sra .l
  case sra_A => exact rotReg .sra .a
  case swap_B => exact rotReg .swap .b
  case swap_C => exact rotReg .swap .c
  case swap_D => exact rotReg .swap .d
  case swap_E => exact rotReg .swap .e
  case swap_H => exact rotReg .swap .h
  case swap_L => exact rotReg .swap .l
  case swap_A => exact rotReg .swap .a
  case srl_B => exact rotReg .srl .b
  case srl_C => exact rotReg .srl .c
  case srl_D => exact rotReg .srl .d
  case srl_E => exact rotReg .srl .e
  case srl_H => exact rotReg .srl .h
  case srl_L => exact rotReg .srl .l
  case srl_A => exact rotReg .srl .a
  case rlc_atHL => exact rotMem .rlc
  case rrc_atHL => exact rotMem .rrc
  case rl_atHL => exact rotMem .rl
  case rr_atHL => exact rotMem .rr
  case sla_atHL => exact rotMem .sla
  case sra_atHL => exact rotMem .sra
  case swap_atHL => exact rotMem .swap
  case srl_atHL => exact rotMem .srl
  case bit_0_B => exact bitReg .i0 .b
  case bit_0_C => exact bitReg .i0 .c
  case bit_0_D => exact bitReg .i0 .d
  case bit_0_E => exact bitReg .i0 .e
  case bit_0_H => exact bitReg .i0 .h
  case bit_0_L => exact bitReg .i0 .l
  case bit_0_A => exact bitReg .i0 .a
  case bit_1_B => exact bitReg .i1 .b
  case bit_1_C => exact bitReg .i1 .c
  case bit_1_D => exact bitReg .i1 .d
  case bit_1_E => exact bitReg .i1 .e
  case bit_1_H => exact bitReg .i1 .h
  case bit_1_L => exact bitReg .i1 .l
  case bit_1_A => exact bitReg .i1 .a
  case bit_2_B => exact bitReg .i2 .b
  case bit_2_C => exact bitReg .i2 .c
  case bit_2_D => exact bitReg .i2 .d
  case bit_2_E => exact bitReg .i2 .e
  case bit_2_H => exact bitReg .i2 .h
  case bit_2_L => exact bitReg .i2 .l
  case bit_2_A => exact bitReg .i2 .a
  case bit_3_B => exact bitReg .i3 .b
  case bit_3_C => exact bitReg .i3 .c
  case bit_3_D => exact bitReg .i3 .d
  case bit_3_E => exact bitReg .i3 .e
  case bit_3_H => exact bitReg .i3 .h
  case bit_3_L => exact bitReg .i3 .l
  case bit_3_A => exact bitReg .i3 .a
  case bit_4_B => exact bitReg .i4 .b
  case bit_4_C => exact bitReg .i4 .c
  case bit_4_D => exact bitReg .i4 .d
  case bit_4_E => exact bitReg .i4 .e
  case bit_4_H => exact bitReg .i4 .h
  case bit_4_L => exact bitReg .i4 .l
  case bit_4_A => exact bitReg .i4 .a
  case bit_5_B => exact bitReg .i5 .b
  case bit_5_C => exact bitReg .i5 .c
  case bit_5_D => exact bitReg .i5 .d
  case bit_5_E => exact bitReg .i5 .e
  case bit_5_H => exact bitReg .i5 .h
  case bit_5_L => exact bitReg .i5 .l
  case bit_5_A => exact bitReg .i5 .a
  case bit_6_B => exact bitReg .i6 .b
  case bit_6_C => exact bitReg .i6 .c
  case bit_6_D => exact bitReg .i6 .d
  case bit_6_E => exact bitReg .i6 .e
  case bit_6_H => exact bitReg .i6 .h
  case bit_6_L => exact bitReg .i6 .l
  case bit_6_A => exact bitReg .i6 .a
  case bit_7_B => exact bitReg .i7 .b
  case bit_7_C => exact bitReg .i7 .c
  case bit_7_D => exact bitReg .i7 .d
  case bit_7_E => exact bitReg .i7 .e
  case bit_7_H => exact bitReg .i7 .h
  case bit_7_L => exact bitReg .i7 .l
  case bit_7_A => exact bitReg .i7 .a
  case bit_0_atHL => exact bitMem .i0
  case bit_1_atHL => exact bitMem .i1
  case bit_2_atHL => exact bitMem .i2
  case bit_3_atHL => exact bitMem .i3
  case bit_4_atHL => exact bitMem .i4
  case bit_5_atHL => exact bitMem .i5
  case bit_6_atHL => exact bitMem .i6
  case bit_7_atHL => exact bitMem .i7
  case res_0_B => exact resReg .i0 .b
  case res_0_C => exact resReg .i0 .c
  case res_0_D => exact resReg .i0 .d
  case res_0_E => exact resReg .i0 .e
  case res_0_H => exact resReg .i0 .h
  case res_0_L => exact resReg .i0 .l
  case res_0_A => exact resReg .i0 .a
  case res_1_B => exact resReg .i1 .b
  case res_1_C => exact resReg .i1 .c
  case res_1_D => exact resReg .i1 .d
  case res_1_E => exact resReg .i1 .e
  case res_1_H => exact resReg .i1 .h
  case res_1_L => exact resReg .i1 .l
  case res_1_A => exact resReg .i1 .a
  case res_2_B => exact resReg .i2 .b
  case res_2_C => exact resReg .i2 .c
  case res_2_D => exact resReg .i2 .d
  case res_2_E => exact resReg .i2 .e
  case res_2_H => exact resReg .i2 .h
  case res_2_L => exact resReg .i2 .l
  case res_2_A => exact resReg .i2 .a
  case res_3_B => exact resReg .i3 .b
  case res_3_C => exact resReg .i3 .c
  case res_3_D => exact resReg .i3 .d
  case res_3_E => exact resReg .i3 .e
  case res_3_H => exact resReg .i3 .h
  case res_3_L => exact resReg .i3 .l
  case res_3_A => exact resReg .i3 .a
  case res_4_B => exact resReg .i4 .b
  case res_4_C => exact resReg .i4 .c
  case res_4_D => exact resReg .i4 .d
  case res_4_E => exact resReg .i4 .e
  case res_4_H => exact resReg .i4 .h
  case res_4_L => exact resReg .i4 .l
  case res_4_A => exact resReg .i4 .a
  case res_5_B => exact resReg .i5 .b
  case res_5_C => exact resReg .i5 .c
  case res_5_D => exact resReg .i5 .d
  case res_5_E => exact resReg .i5 .e
  case res_5_H => exact resReg .i5 .h
  case res_5_L => exact resReg .i5 .l
  case res_5_A => exact resReg .i5 .a
  case res_6_B => exact resReg .i6 .b
  case res_6_C => exact resReg .i6 .c
  case res_6_D => exact resReg .i6 .d
  case res_6_E => exact resReg .i6 .e
  case res_6_H => exact resReg .i6 .h
  case res_6_L => exact resReg .i6 .l
  case res_6_A => exact resReg .i6 .a
  case res_7_B => exact resReg .i7 .b
  case res_7_C => exact resReg .i7 .c
  case res_7_D => exact resReg .i7 .d
  case res_7_E => exact resReg .i7 .e
  case res_7_H => exact resReg .i7 .h
  case res_7_L => exact resReg .i7 .l
  case res_7_A => exact resReg .i7 .a
  case res_0_atHL => exact resMem .i0
  case res_1_atHL => exact resMem .i1
  case res_2_atHL => exact resMem .i2
  case res_3_atHL => exact resMem .i3
  case res_4_atHL => exact resMem .i4
  case res_5_atHL => exact resMem .i5
  case res_6_atHL => exact resMem .i6
  case res_7_atHL => exact resMem .i7
  case set_0_B => exact setReg .i0 .b
  case set_0_C => exact setReg .i0 .c
  case set_0_D => exact setReg .i0 .d
  case set_0_E => exact setReg .i0 .e
  case set_0_H => exact setReg .i0 .h
  case set_0_L => exact setReg .i0 .l
  case set_0_A => exact setReg .i0 .a
  case set_1_B => exact setReg .i1 .b
  case set_1_C => exact setReg .i1 .c
  case set_1_D => exact setReg .i1 .d
  case set_1_E => exact setReg .i1 .e
  case set_1_H => exact setReg .i1 .h
  case set_1_L => exact setReg .i1 .l
  case set_1_A => exact setReg .i1 .a
  case set_2_B => exact setReg .i2 .b
  case set_2_C => exact setReg .i2 .c
  case set_2_D => exact setReg .i2 .d
  case set_2_E => exact setReg .i2 .e
  case set_2_H => exact setReg .i2 .h
  case set_2_L => exact setReg .i2 .l
  case set_2_A => exact setReg .i2 .a
  case set_3_B => exact setReg .i3 .b
  case set_3_C => exact setReg .i3 .c
  case set_3_D => exact setReg .i3 .d
  case set_3_E => exact setReg .i3 .e
  case set_3_H => exact setReg .i3 .h
  case set_3_L => exact setReg .i3 .l
  case set_3_A => exact setReg .i3 .a
  case set_4_B => exact setReg .i4 .b
  case set_4_C => exact setReg .i4 .c
  case set_4_D => exact setReg .i4 .d
  case set_4_E => exact setReg .i4 .e
  case set_4_H => exact setReg .i4 .h
  case set_4_L => exact setReg .i4 .l
  case set_4_A => exact setReg .i4 .a
  case set_5_B => exact setReg .i5 .b
  case set_5_C => exact setReg .i5 .c
  case set_5_D => exact setReg .i5 .d
  case set_5_E => exact setReg .i5 .e
  case set_5_H => exact setReg .i5 .h
  case set_5_L => exact setReg .i5 .l
  case set_5_A => exact setReg .i5 .a
  case set_6_B => exact setReg .i6 .b
  case set_6_C => exact setReg .i6 .c
  case set_6_D => exact setReg .i6 .d
  case set_6_E => exact setReg .i6 .e
  case set_6_H => exact setReg .i6 .h
  case set_6_L => exact setReg .i6 .l
  case set_6_A => exact setReg .i6 .a
  case set_7_B => exact setReg .i7 .b
  case set_7_C => exact setReg .i7 .c
  case set_7_D => exact setReg .i7 .d
  case set_7_E => exact setReg .i7 .e
  case set_7_H => exact setReg .i7 .h
  case set_7_L => exact setReg .i7 .l
  case set_7_A => exact setReg .i7 .a
  case set_0_atHL => exact setMem .i0
  case set_1_atHL => exact setMem .i1
  case set_2_atHL => exact setMem .i2
  case set_3_atHL => exact setMem .i3
  case set_4_atHL => exact setMem .i4
  case set_5_atHL => exact setMem .i5
  case set_6_atHL => exact setMem .i6
  case set_7_atHL => exact setMem .i7
  case jp_NZ_a16 t => exact jpCond .nz t
  case jp_Z_a16 t => exact jpCond .z t
  case jp_NC_a16 t => exact jpCond .nc t
  case jp_C_a16 t => exact jpCond .c t
  case jr_NZ_e8 e => exact jrCond .nz e
  case jr_Z_e8 e => exact jrCond .z e
  case jr_NC_e8 e => exact jrCond .nc e
  case jr_C_e8 e => exact jrCond .c e
  case call_NZ_a16 t => exact callCond .nz t
  case call_Z_a16 t => exact callCond .z t
  case call_NC_a16 t => exact callCond .nc t
  case call_C_a16 t => exact callCond .c t
  case ret_NZ => exact retCond .nz
  case ret_Z => exact retCond .z
  case ret_NC => exact retCond .nc
  case ret_C => exact retCond .c
  case rst_00 => exact rst .i0
  case rst_08 => exact rst .i1
  case rst_10 => exact rst .i2
  case rst_18 => exact rst .i3
  case rst_20 => exact rst .i4
  case rst_28 => exact rst .i5
  case rst_30 => exact rst .i6
  case rst_38 => exact rst .i7
  case nop => exact nop
  case ld_atBC_A => exact ld_atBC_A
  case rlca => exact rlca
  case ld_atA16_SP a16 => exact ld_atA16_SP a16
  case ld_A_atBC => exact ld_A_atBC
  case rrca => exact rrca
  case unknown op => exact unknown op
  case ld_atDE_A => exact ld_atDE_A
  case rla => exact rla
  case jr_e8 e8 => exact jr_e8 e8
  case ld_A_atDE => exact ld_A_atDE
  case rra => exact rra
  case ld_atHLinc_A => exact ld_atHLinc_A
  case daa => exact daa
  case ld_A_atHLinc => exact ld_A_atHLinc
  case cpl => exact cpl
  case ld_atHLdec_A => exact ld_atHLdec_A
  case inc_atHL => exact inc_atHL
  case dec_atHL => exact dec_atHL
  case ld_atHL_d8 d8 => exact ld_atHL_d8 d8
  case scf => exact scf
  case ld_A_atHLdec => exact ld_A_atHLdec
  case ccf => exact ccf
  case halt => exact halt
  case jp_a16 a16 => exact jp_a16 a16
  case ret => exact ret
  case prefixCb sub => exact prefixCb sub
  case call_a16 a16 => exact call_a16 a16
  case reti => exact reti
  case ldh_atA8_A a8 => exact ldh_atA8_A a8
  case ld_atC_A => exact ld_atC_A
  case add_SP_e8 e8 => exact add_SP_e8 e8
  case jp_HL => exact jp_HL
  case ld_atA16_A a16 => exact ld_atA16_A a16
  case ldh_A_atA8 a8 => exact ldh_A_atA8 a8
  case ld_A_atC => exact ld_A_atC
  case di => exact di
  case ld_HL_SPe8 e8 => exact ld_HL_SPe8 e8
  case ld_SP_HL => exact ld_SP_HL
  case ld_A_atA16 a16 => exact ld_A_atA16 a16
  case ei => exact ei

namespace Machine

/-! ## The meaning of an indexed form -/

theorem exec_ldRegReg (r : Reg8) (r' : Reg8) (s : State) : exec (Instr.ldRegReg r r') s = opLdRegReg r r' s := by
  cases r <;> cases r' <;> rfl

theorem exec_ldRegMem (r : Reg8) (s : State) : exec (Instr.ldRegMem r) s = opLdRegMem r s := by
  cases r <;> rfl

theorem exec_ldMemReg (r : Reg8) (s : State) : exec (Instr.ldMemReg r) s = opLdMemReg r s := by
  cases r <;> rfl

theorem exec_ldRegImm (r : Reg8) (v : Byte) (s : State) : exec (Instr.ldRegImm r v) s = opLdRegImm r v s := by
  cases r <;> rfl

theorem exec_ldPairImm (p : Pair) (w : Word) (s : State) : exec (Instr.ldPairImm p w) s = opLdPairImm p w s := by
  cases p <;> rfl

theorem exec_push (p : StackPair) (s : State) : exec (Instr.push p) s = opPush p s := by
  cases p <;> rfl

theorem exec_pop (p : StackPair) (s : State) : exec (Instr.pop p) s = opPop p s := by
  cases p <;> rfl

theorem exec_aluReg (op : AluOp) (r : Reg8) (s : State) : exec (Instr.aluReg op r) s = opAluReg op r s := by
  cases op <;> cases r <;> rfl

theorem exec_aluMem (op : AluOp) (s : State) : exec (Instr.aluMem op) s = opAluMem op s := by
  cases op <;> rfl

theorem exec_aluImm (op : AluOp) (v : Byte) (s : State) : exec (Instr.aluImm op v) s = opAluImm op v s := by
  cases op <;> rfl

theorem exec_incReg (r : Reg8) (s : State) : exec (Instr.incReg r) s = opIncReg r s := by
  cases r <;> rfl

theorem exec_decReg (r : Reg8) (s : State) : exec (Instr.decReg r) s = opDecReg r s := by
  cases r <;> rfl

theorem exec_addHl (p : Pair) (s : State) : exec (Instr.addHl p) s = opAddHl p s := by
  cases p <;> rfl

theorem exec_incPair (p : Pair) (s : State) : exec (Instr.incPair p) s = opIncPair p s := by
  cases p <;> rfl

theorem exec_decPair (p : Pair) (s : State) : exec (Instr.decPair p) s = opDecPair p s := by
  cases p <;> rfl

theorem exec_rotReg (op : RotOp) (r : Reg8) (s : State) : exec (Instr.rotReg op r) s = opRotReg op r s := by
  cases op <;> cases r <;> rfl

theorem exec_rotMem (op : RotOp) (s : State) : exec (Instr.rotMem op) s = opRotMem op s := by
  cases op <;> rfl

theorem exec_bitReg (i : Index3) (r : Reg8) (s : State) : exec (Instr.bitReg i r) s = opBitReg i r s := by
  cases i <;> cases r <;> rfl

theorem exec_bitMem (i : Index3) (s : State) : exec (Instr.bitMem i) s = opBitMem i s := by
  cases i <;> rfl

theorem exec_resReg (i : Index3) (r : Reg8) (s : State) : exec (Instr.resReg i r) s = opResReg i r s := by
  cases i <;> cases r <;> rfl

theorem exec_resMem (i : Index3) (s : State) : exec (Instr.resMem i) s = opResMem i s := by
  cases i <;> rfl

theorem exec_setReg (i : Index3) (r : Reg8) (s : State) : exec (Instr.setReg i r) s = opSetReg i r s := by
  cases i <;> cases r <;> rfl

theorem exec_setMem (i : Index3) (s : State) : exec (Instr.setMem i) s = opSetMem i s := by
  cases i <;> rfl

theorem exec_jpCond (cc : Cond) (w : Word) (s : State) : exec (Instr.jpCond cc w) s = opJpCond cc w s := by
  cases cc <;> rfl

theorem exec_jrCond (cc : Cond) (v : Byte) (s : State) : exec (Instr.jrCond cc v) s = opJrCond cc v s := by
  cases cc <;> rfl

theorem exec_callCond (cc : Cond) (w : Word) (s : State) : exec (Instr.callCond cc w) s = opCallCond cc w s := by
  cases cc <;> rfl

theorem exec_retCond (cc : Cond) (s : State) : exec (Instr.retCond cc) s = opRetCond cc s := by
  cases cc <;> rfl

theorem exec_rst (i : Index3) (s : State) : exec (Instr.rst i) s = opRst i s := by
  cases i <;> rfl

end Machine

end Sys2Proof
end

