-- ==== Sys2Proof/Laws/Exec.lean ====
section
/-! SUPPORT. What an instruction can do to the state, said once: every meaning answers a next state that a few
elementary updates build. A claim about every instruction needs one lemma per elementary update. -/

namespace Sys2Proof.Machine

/-- `Built s t`: elementary updates take `s` to `t`. -/
inductive Built (s : State) : State → Prop
  | refl : Built s s
  | setRegs {t : State} (g : Regs) (hg : t.regs.Legal → g.Legal) (h : Built s t) : Built s (t.setRegs g)
  | busWrite {t : State} (a : Word) (v : Byte) (h : Built s t) : Built s (busWrite t a v)
  | setIme {t : State} (v : Bool) (h : Built s t) : Built s (t.setIme v)
  | setHalted {t : State} (v : Bool) (h : Built s t) : Built s (t.setHalted v)
  | setEiPending {t : State} (v : Bool) (hv : v = true → t.cfg.eiDelay = true) (h : Built s t) :
      Built s (t.setEiPending v)
  | logEvent {t : State} (e : Event) (h : Built s t) : Built s (t.logEvent e)
  | charge {t : State} (n : Nat) (h : Built s t) : Built s (t.charge n)

namespace Built

variable {s t : State}

theorem setPc (v : Word) (h : Built s t) : Built s (t.setPc v) := setRegs { t.regs with pc := v } (fun l => l) h
theorem setSp (v : Word) (h : Built s t) : Built s (t.setSp v) := setRegs { t.regs with sp := v } (fun l => l) h
theorem setA (v : Byte) (h : Built s t) : Built s (t.setA v) := setRegs { t.regs with a := v } (fun l => l) h
theorem setHl (v : Word) (h : Built s t) : Built s (t.setHl v) :=
  setRegs { t.regs with h := hiByte v, l := loByte v } (fun l => l) h

theorem setReg8 (r : Reg8) (v : Byte) (h : Built s t) : Built s (t.setReg8 r v) :=
  setRegs (t.regs.setReg8 r v) (by cases r <;> exact fun l => l) h

theorem setPair (p : Pair) (v : Word) (h : Built s t) : Built s (t.setPair p v) := by
  cases p <;> exact setRegs _ (fun l => l) h

theorem and_f0_legal (v : Byte) : (v &&& 0xF0#8) &&& 0x0F#8 = 0#8 := by
  rw [BitVec.and_assoc]
  exact BitVec.and_zero

theorem setStackPair (p : StackPair) (v : Word) (h : Built s t) : Built s (t.setStackPair p v) := by
  cases p
  case af => exact setRegs { t.regs with a := hiByte v, f := loByte v &&& 0xF0#8 } (fun _ => and_f0_legal _) h
  all_goals exact setRegs _ (fun l => l) h

theorem low_nibble (v : Byte) : v &&& 0x0F#8 = (v.setWidth 4).setWidth 8 := by
  revert v
  decide

/-- "every flag-writing instruction write only `F[7:4]`" (10_state.md R24). -/
theorem withFlags_low (f : Byte) (fl : Flags) : withFlags f fl &&& 0x0F#8 = f &&& 0x0F#8 := by
  rw [low_nibble, low_nibble f]
  exact congrArg _ (State.append_low fl.nibble (f.setWidth 4))

/-- The flags written are the flags read. -/
theorem flagsOf_withFlags (f : Byte) (fl : Flags) : flagsOf (withFlags f fl) = fl := by
  have h : ∀ (z n h c : Bool) (y : BitVec 4), flagsOf (Flags.nibble ⟨z, n, h, c⟩ ++ y) = ⟨z, n, h, c⟩ := by decide
  exact h fl.z fl.n fl.h fl.c (f.setWidth 4)

theorem setFlags (fl : Flags) (h : Built s t) : Built s (t.setFlags fl) :=
  setRegs { t.regs with f := withFlags t.regs.f fl } (fun l => (withFlags_low _ _).trans l) h

theorem busWrite16 (a v : Word) (h : Built s t) : Built s (busWrite16 t a v) := busWrite _ _ (busWrite _ _ h)

theorem push16 (v : Word) (h : Built s t) : Built s (push16 v t) :=
  busWrite _ _ (setSp _ (busWrite _ _ (setSp _ h)))

theorem aluApply (op : AluOp) (v : Byte) (h : Built s t) : Built s (aluApply op v t) := setFlags _ (setA _ h)

theorem jumpRelative (e : Byte) (h : Built s t) : Built s (jumpRelative e t) := setPc _ h

theorem callTo (w : Word) (h : Built s t) : Built s (callTo w t) := setPc _ (push16 _ h)

theorem afterPop (h : Built s t) : Built s (afterPop t) := setSp _ h

theorem returnToPopped (h : Built s t) : Built s (returnToPopped t) := setPc _ (afterPop h)

theorem returnFromInterrupt (h : Built s t) : Built s (returnFromInterrupt t) :=
  setEiPending false (by simp) (setIme _ (setPc _ (afterPop h)))

theorem ite {c : Prop} [Decidable c] {x y : State} (hx : c → Built s x) (hy : ¬c → Built s y) :
    Built s (if c then x else y) := by
  split
  · exact hx ‹_›
  · exact hy ‹_›

theorem trans {u : State} (h : Built s t) (k : Built t u) : Built s u := by
  induction k with
  | refl => exact h
  | setRegs g hg _ ih => exact setRegs g hg ih
  | busWrite a v _ ih => exact busWrite a v ih
  | setIme v _ ih => exact setIme v ih
  | setHalted v _ ih => exact setHalted v ih
  | setEiPending v hv _ ih => exact setEiPending v hv ih
  | logEvent e _ ih => exact logEvent e ih
  | charge n _ ih => exact charge n ih

/-! ## What no instruction changes -/

/-- The configuration, the ROM image, the prescaler of the gated counter and the frame buffer. -/
theorem kept (h : Built s t) :
    t.cfg = s.cfg ∧ t.store.rom = s.store.rom ∧ t.store.romBanks = s.store.romBanks ∧
    t.timer.timaSub = s.timer.timaSub ∧ t.ppu.fb = s.ppu.fb := by
  induction h with
  | refl => exact ⟨rfl, rfl, rfl, rfl, rfl⟩
  | busWrite a v h ih =>
    obtain ⟨h1, h2, h3, h4⟩ := busWrite_hidden _ a v
    rw [busWrite_cfg, h1, h2, h3, h4]
    exact ih
  | _ => assumption

end Built

/-! ## The meaning of every instruction -/

section
variable (s : State)

/-- Every CB-page meaning answers a built state, 8, 12 or 16 cycles on. -/
theorem cbPage_built (sub : Byte) : ∃ t, cbPage sub s = .next t ∧ Built s t := by
  unfold cbPage
  dsimp only
  split
  · exact ⟨_, rfl, .charge _ (.setFlags _ (.setReg8 _ _ .refl))⟩
  · exact ⟨_, rfl, .charge _ (.busWrite _ _ (.setFlags _ .refl))⟩
  · exact ⟨_, rfl, .charge _ (.setFlags _ .refl)⟩
  · exact ⟨_, rfl, .charge _ (.setFlags _ .refl)⟩
  · exact ⟨_, rfl, .charge _ (.setReg8 _ _ .refl)⟩
  · exact ⟨_, rfl, .charge _ (.busWrite _ _ .refl)⟩
  · exact ⟨_, rfl, .charge _ (.setReg8 _ _ .refl)⟩
  · exact ⟨_, rfl, .charge _ (.busWrite _ _ .refl)⟩

/-- Every instruction answers a next state that elementary updates build: no instruction faults (60_exceptions.md
R551), and none is refused. -/
theorem exec_built (i : Instr) : ∃ t, exec i s = .next t ∧ Built s t := by
  cases i using Instr.byForm
  case ldRegReg => rw [exec_ldRegReg]; exact ⟨_, rfl, .charge _ (.setReg8 _ _ .refl)⟩
  case ldRegMem => rw [exec_ldRegMem]; exact ⟨_, rfl, .charge _ (.setReg8 _ _ .refl)⟩
  case ldMemReg => rw [exec_ldMemReg]; exact ⟨_, rfl, .charge _ (.busWrite _ _ .refl)⟩
  case ldRegImm => rw [exec_ldRegImm]; exact ⟨_, rfl, .charge _ (.setReg8 _ _ .refl)⟩
  case ldPairImm => rw [exec_ldPairImm]; exact ⟨_, rfl, .charge _ (.setPair _ _ .refl)⟩
  case push => rw [exec_push]; exact ⟨_, rfl, .charge _ (.push16 _ .refl)⟩
  case pop => rw [exec_pop]; exact ⟨_, rfl, .charge _ (.setStackPair _ _ (.afterPop .refl))⟩
  case aluReg => rw [exec_aluReg]; exact ⟨_, rfl, .charge _ (.aluApply _ _ .refl)⟩
  case aluMem => rw [exec_aluMem]; exact ⟨_, rfl, .charge _ (.aluApply _ _ .refl)⟩
  case aluImm => rw [exec_aluImm]; exact ⟨_, rfl, .charge _ (.aluApply _ _ .refl)⟩
  case incReg => rw [exec_incReg]; exact ⟨_, rfl, .charge _ (.setFlags _ (.setReg8 _ _ .refl))⟩
  case decReg => rw [exec_decReg]; exact ⟨_, rfl, .charge _ (.setFlags _ (.setReg8 _ _ .refl))⟩
  case addHl => rw [exec_addHl]; exact ⟨_, rfl, .charge _ (.setFlags _ (.setHl _ .refl))⟩
  case incPair => rw [exec_incPair]; exact ⟨_, rfl, .charge _ (.setPair _ _ .refl)⟩
  case decPair => rw [exec_decPair]; exact ⟨_, rfl, .charge _ (.setPair _ _ .refl)⟩
  case rotReg => rw [exec_rotReg]; exact ⟨_, rfl, .charge _ (.setFlags _ (.setReg8 _ _ .refl))⟩
  case rotMem => rw [exec_rotMem]; exact ⟨_, rfl, .charge _ (.busWrite _ _ (.setFlags _ .refl))⟩
  case bitReg => rw [exec_bitReg]; exact ⟨_, rfl, .charge _ (.setFlags _ .refl)⟩
  case bitMem => rw [exec_bitMem]; exact ⟨_, rfl, .charge _ (.setFlags _ .refl)⟩
  case resReg => rw [exec_resReg]; exact ⟨_, rfl, .charge _ (.setReg8 _ _ .refl)⟩
  case resMem => rw [exec_resMem]; exact ⟨_, rfl, .charge _ (.busWrite _ _ .refl)⟩
  case setReg => rw [exec_setReg]; exact ⟨_, rfl, .charge _ (.setReg8 _ _ .refl)⟩
  case setMem => rw [exec_setMem]; exact ⟨_, rfl, .charge _ (.busWrite _ _ .refl)⟩
  case jpCond =>
    rw [exec_jpCond]
    exact ⟨_, rfl, .ite (fun _ => .charge _ (.setPc _ .refl)) fun _ => .charge _ .refl⟩
  case jrCond =>
    rw [exec_jrCond]
    exact ⟨_, rfl, .ite (fun _ => .charge _ (.jumpRelative _ .refl)) fun _ => .charge _ .refl⟩
  case callCond =>
    rw [exec_callCond]
    exact ⟨_, rfl, .ite (fun _ => .charge _ (.callTo _ .refl)) fun _ => .charge _ .refl⟩
  case retCond =>
    rw [exec_retCond]
    exact ⟨_, rfl, .ite (fun _ => .charge _ (.returnToPopped .refl)) fun _ => .charge _ .refl⟩
  case rst => rw [exec_rst]; exact ⟨_, rfl, .charge _ (.callTo _ .refl)⟩
  case nop => exact ⟨_, rfl, .charge _ .refl⟩
  case halt => exact ⟨_, rfl, .charge _ (.setHalted _ .refl)⟩
  case di => exact ⟨_, rfl, .charge _ (.setEiPending _ (by simp) (.setIme _ .refl))⟩
  case ei => exact ⟨_, rfl, .charge _ (.ite (fun h => .setEiPending _ (fun _ => h) .refl) fun _ => .setIme _ .refl)⟩
  case unknown => exact ⟨_, rfl, .charge _ (.logEvent _ .refl)⟩
  case prefixCb sub => exact cbPage_built s (s.cfg.instrTable.cbRow sub)
  case ld_A_atBC => exact ⟨_, rfl, .charge _ (.setA _ .refl)⟩
  case ld_A_atDE => exact ⟨_, rfl, .charge _ (.setA _ .refl)⟩
  case ld_A_atC => exact ⟨_, rfl, .charge _ (.setA _ .refl)⟩
  case ldh_A_atA8 => exact ⟨_, rfl, .charge _ (.setA _ .refl)⟩
  case ld_A_atA16 => exact ⟨_, rfl, .charge _ (.setA _ .refl)⟩
  case ld_A_atHLinc => exact ⟨_, rfl, .charge _ (.setHl _ (.setA _ .refl))⟩
  case ld_A_atHLdec => exact ⟨_, rfl, .charge _ (.setHl _ (.setA _ .refl))⟩
  case ld_atHLinc_A => exact ⟨_, rfl, .charge _ (.setHl _ (.busWrite _ _ .refl))⟩
  case ld_atHLdec_A => exact ⟨_, rfl, .charge _ (.setHl _ (.busWrite _ _ .refl))⟩
  case ld_atA16_SP => exact ⟨_, rfl, .charge _ (.busWrite16 _ _ .refl)⟩
  case ld_HL_SPe8 => exact ⟨_, rfl, .charge _ (.setFlags _ (.setHl _ .refl))⟩
  case ld_SP_HL => exact ⟨_, rfl, .charge _ (.setSp _ .refl)⟩
  case add_SP_e8 => exact ⟨_, rfl, .charge _ (.setFlags _ (.setSp _ .refl))⟩
  case ld_atBC_A => exact ⟨_, rfl, .charge _ (.busWrite _ _ .refl)⟩
  case ld_atDE_A => exact ⟨_, rfl, .charge _ (.busWrite _ _ .refl)⟩
  case ld_atC_A => exact ⟨_, rfl, .charge _ (.busWrite _ _ .refl)⟩
  case ldh_atA8_A => exact ⟨_, rfl, .charge _ (.busWrite _ _ .refl)⟩
  case ld_atA16_A => exact ⟨_, rfl, .charge _ (.busWrite _ _ .refl)⟩
  case ld_atHL_d8 => exact ⟨_, rfl, .charge _ (.busWrite _ _ .refl)⟩
  case inc_atHL => exact ⟨_, rfl, .charge _ (.busWrite _ _ (.setFlags _ .refl))⟩
  case dec_atHL => exact ⟨_, rfl, .charge _ (.busWrite _ _ (.setFlags _ .refl))⟩
  case jp_a16 => exact ⟨_, rfl, .charge _ (.setPc _ .refl)⟩
  case jp_HL => exact ⟨_, rfl, .charge _ (.setPc _ .refl)⟩
  case jr_e8 => exact ⟨_, rfl, .charge _ (.jumpRelative _ .refl)⟩
  case call_a16 => exact ⟨_, rfl, .charge _ (.callTo _ .refl)⟩
  case ret => exact ⟨_, rfl, .charge _ (.returnToPopped .refl)⟩
  case reti => exact ⟨_, rfl, .charge _ (.returnFromInterrupt .refl)⟩
  case scf => exact ⟨_, rfl, .charge _ (.setFlags _ .refl)⟩
  case ccf => exact ⟨_, rfl, .charge _ (.setFlags _ .refl)⟩
  all_goals exact ⟨_, rfl, .charge _ (.setFlags _ (.setA _ .refl))⟩

end

end Sys2Proof.Machine
end

