-- ==== Sys2Proof/Laws/Inv.lean ====
section
/-! SUPPORT. The legal states are kept by every elementary update of an instruction, by the interrupt dispatch and by
one cycle or step of each peripheral. -/

namespace Sys2Proof

/-! ## What a well-formed configuration says -/

/-- The checks of `Config.wellFormed` as propositions. -/
structure Config.Sound (c : Config) : Prop where
  openFree : ∀ a ∈ c.openAddresses, c.freeIoAddress a = true
  openDistinct : c.openAddresses.Nodup
  ramBanks : c.ramBanks ≤ 16
  map : c.memoryMap.wellFormed = true
  stepPeriod : 1 ≤ c.spuStepPeriod
  cores : 1 ≤ c.nSpuCores
  divPeriod : 1 ≤ c.divPeriod
  timaPeriods : c.timaPeriods.length = 4 ∧ ∀ n ∈ c.timaPeriods, 1 ≤ n
  intVectors : c.intVectors.length = 5
  lineCycles : 1 ≤ c.lineCycles
  haltIdle : 1 ≤ c.haltIdleCycles
  unknownOp : 1 ≤ c.unknownOpCycles
  samples : 1 ≤ c.sramSamples
  pitchOne : 1 ≤ c.pitchOne
  reverbDelay : 1 ≤ c.reverbDelay
  wramBanks : 2 ≤ c.wramBanks
  resetF : c.resetRegs.f &&& 0x0F#8 = 0#8
  resetLcdc : (c.resetIoByte 0x40).getLsbD 7 = true

theorem Config.sound {c : Config} (h : c.wellFormed = true) : c.Sound := by
  unfold Config.wellFormed Config.sane at h
  simp only [Bool.and_eq_true, decide_eq_true_eq, List.all_eq_true] at h
  obtain ⟨⟨⟨⟨⟨h1, h2⟩, h3⟩, h4⟩, -⟩, h5⟩ := h
  obtain ⟨⟨⟨⟨⟨⟨⟨⟨⟨⟨⟨⟨⟨⟨a1, a2⟩, a3⟩, a4⟩, a5⟩, a6⟩, a7⟩, a8⟩, a9⟩, a10⟩, a11⟩, a12⟩, a13⟩, a14⟩, a15⟩ := h5
  exact ⟨h1, h2, h3, h4, a1, a2, a3, ⟨a4, a5⟩, a6, a7, a8, a9, a10, a11, a12, a13, a14, a15⟩

theorem MemoryMap.fits_of {m : MemoryMap} (h : m.wellFormed = true) : m.fits = true := by
  unfold MemoryMap.wellFormed at h
  simp only [Bool.and_eq_true] at h
  exact h.1.2

namespace Machine

/-! ## Bus writes -/

theorem Range.offset_lt {r : Range} {o k : Nat} (h : r.has (r.first + o) = true) (hs : r.size ≤ k) : o < k := by
  have := Range.has_iff.1 h
  unfold Range.size at hs
  omega

/-- What an address of each region says of its offset, in a well-formed map. -/
theorem region_offset {cfg : Config} (hm : cfg.memoryMap.wellFormed = true) (a : Word) :
    match region cfg a with
    | .romFixed o => o < 0x4000
    | .romSwitch o => o < 0x4000
    | .vram o => o < 0x2000
    | .eram o => o < 0x2000
    | .wramFixed o => o < 0x1000
    | .wramSwitch o => o < 0x1000
    | .oam o => o < 0xA0
    | .unmapped => True
    | .io o => o < 0x80
    | .hram o => o < 0x7F
    | .ie => True := by
  have h := region_names cfg a
  have f := MemoryMap.fits_of hm
  unfold MemoryMap.fits at f
  simp only [Bool.and_eq_true, decide_eq_true_eq] at f
  obtain ⟨⟨⟨⟨⟨⟨⟨⟨f1, f2⟩, f3⟩, f4⟩, f5⟩, f6⟩, f7⟩, f8⟩, f9⟩ := f
  revert h
  generalize unecho cfg.memoryMap a.toNat = n
  cases region cfg a <;> simp only [Region.names]
  case unmapped => exact fun _ => trivial
  case ie => exact fun _ => trivial
  all_goals
    rintro ⟨h, rfl⟩
    exact Range.offset_lt h (by assumption)

theorem eramIndex_lt {s : State} {o : Nat} (h : s.cfg.ramBanks ≠ 0) (ho : o < 0x2000) :
    eramIndex s o < s.cfg.ramBanks * Config.ramBankSize := by
  unfold eramIndex Config.ramBankSize
  have := Nat.mod_lt s.bank.ramBank.toNat (Nat.pos_of_ne_zero h)
  omega

theorem dmaFold_legal (v : Byte) {cfg : Config} (l : List Nat) (hl : ∀ i ∈ l, i < 0xA0) (s : State)
    (h : s.store.Legal cfg) : (l.foldl (dmaByte v) s).store.Legal cfg := by
  induction l generalizing s with
  | nil => exact h
  | cons i l ih =>
    refine ih (fun j hj => hl j (by simp [hj])) _ ?_
    exact { h with oam := Cells.within_write h.oam (hl i (by simp)) _ }

theorem oamTransfer_legal (v : Byte) {cfg : Config} (s : State) (h : s.store.Legal cfg) :
    (oamTransfer v s).store.Legal cfg :=
  dmaFold_legal v _ (fun _ hi => List.mem_range.1 hi) s h

theorem io_write_legal {st : Store} {cfg : Config} (h : st.Legal cfg) {o : Nat} (ho : o < 0x80)
    (hp : isPlainCell cfg o = true) (v : Byte) : Store.Legal { st with io := st.io.write o v } cfg :=
  { h with
    io := Cells.within_write h.io ho v
    ioPlain := fun c hc => by
      rcases Cells.mem_write hc with hc | ⟨rfl, -⟩
      · exact h.ioPlain c hc
      · exact hp }

/-- A register of the pipeline other than the mode, the counters and the enable bit does not touch legality. -/
theorem Ppu.Legal.of_eq {cfg : Config} {p q : Ppu} (h : p.Legal cfg) (hm : q.mode = p.mode) (hd : q.dot = p.dot) (hl : q.ly = p.ly)
    (hc : q.lcdc = p.lcdc) (hf : q.fb = p.fb) : q.Legal cfg :=
  ⟨by rw [hd, hm]; exact h.dot, by rw [hc, hm, hl]; exact h.line, by rw [hl]; exact h.lineBound,
    by rw [hc, hm]; exact h.disabled, by rw [hf]; exact h.fb⟩

theorem Ppu.Legal.writeLcdc {cfg : Config} {p : Ppu} (h : p.Legal cfg) (v : Byte) : (p.writeLcdc v).Legal cfg := by
  unfold Ppu.writeLcdc
  dsimp only
  split
  · next hc =>
    simp only [Bool.and_eq_true, Bool.not_eq_true'] at hc
    exact ⟨by simp [Ppu.disable, PpuMode.budget, Config.hblankCycles], fun hv => by simp_all [Ppu.disable],
      h.lineBound, fun _ => rfl, h.fb⟩
  · next hn =>
    split
    · exact ⟨by simp [Ppu.enable, PpuMode.budget, Config.oamScanCycles], fun _ => by simp [Ppu.enable, PpuMode.lineLegal],
        by simp [Ppu.enable], fun hv => by simp_all [Ppu.enable], h.fb⟩
    · next hn' =>
      simp only [Bool.and_eq_true, Bool.not_eq_true', not_and, Bool.not_eq_false, Bool.not_eq_true] at hn hn'
      refine ⟨h.dot, fun hv => h.line ?_, h.lineBound, fun hv => h.disabled ?_, h.fb⟩
      · by_contra hp
        rw [Bool.not_eq_true] at hp
        have := hn' hp
        simp_all
      · by_contra hp
        rw [Bool.not_eq_false] at hp
        have := hn hp
        simp_all

/-! ### The synthesizer's registers -/

theorem sampleIndex_lt {cfg : Config} (hc : cfg.Sound) (a : Nat) : sampleIndex cfg a < cfg.sramSamples :=
  Nat.mod_lt _ hc.samples

theorem SpuCore.Legal.onVoice {cfg : Config} {k : SpuCore} (h : k.Legal cfg) (v : Nat) {f : Voice → Voice}
    (hf : ∀ u : Voice, u.Legal cfg → (f u).Legal cfg) : (k.onVoice v f).Legal cfg :=
  { h with
    count := (List.length_modify ..).trans h.count
    voices := fun u hu => by
      obtain ⟨i, hi, rfl⟩ := List.getElem_of_mem hu
      simp only [SpuCore.onVoice, List.getElem_modify]
      have hm := h.voices (k.voices[i]'(by simpa [SpuCore.onVoice] using hi)) (List.getElem_mem _)
      split
      · exact hf _ hm
      · exact hm }

/-- Every port operation keeps a core legal. -/
theorem SpuCore.Legal.port {cfg : Config} (hc : cfg.Sound) {k : SpuCore} (h : k.Legal cfg) (op : SpuOp) :
    (k.port cfg op).Legal cfg := by
  cases op
  case setVoiceAddr v a =>
    refine h.onVoice v fun u hu => ⟨hu.env, ?_, hu.latch⟩
    exact Nat.mul_lt_mul_of_pos_right (sampleIndex_lt hc a) hc.pitchOne
  case keyOn v => exact h.onVoice v fun u hu => ⟨Nat.zero_le _, hu.pos, fun hk => by cases hk⟩
  case keyOff v =>
    refine h.onVoice v fun u hu => ?_
    unfold Voice.releaseKey
    split
    · next hk => exact ⟨hu.env, hu.pos, fun _ => hk⟩
    · exact hu
  case setControl => exact { h with }
  case setIrqAddr a => exact { h with irqAddr := sampleIndex_lt hc a }
  case setXferAddr a => exact { h with xferAddr := sampleIndex_lt hc a }
  case writeData w =>
    exact { h with sram := Cells.within_write h.sram h.xferAddr w, xferAddr := sampleIndex_lt hc _ }
  case ackIrq => exact { h with }
  all_goals exact h.onVoice _ fun u hu => ⟨hu.env, hu.pos, hu.latch⟩

theorem Spu.Legal.modify {cfg : Config} {u : Spu} (h : u.Legal cfg) (n : Nat) {f : SpuCore → SpuCore}
    (hf : ∀ k : SpuCore, k.Legal cfg → (f k).Legal cfg) :
    Spu.Legal { u with cores := u.cores.modify n f } cfg :=
  { h with
    count := (List.length_modify ..).trans h.count
    cores := fun k hk => by
      obtain ⟨i, hi, rfl⟩ := List.getElem_of_mem hk
      simp only [List.getElem_modify]
      have hm := h.cores (u.cores[i]'(by simpa using hi)) (List.getElem_mem _)
      split
      · exact hf _ hm
      · exact hm }

/-- Every port operation keeps the machine legal. -/
theorem State.Inv.spuPort {s : State} (h : s.Inv) (n : Nat) (op : SpuOp) : (spuPort n op s).Inv :=
  { h with spu := h.spu.modify n fun _ hk => hk.port (Config.sound h.cfg) op }

theorem State.Inv.spuBusWrite {s : State} (h : s.Inv) {o : Nat} (ho : o < 0x80) (v : Byte) :
    (spuBusWrite s o v).Inv := by
  have h1 : ((s.setSpu { s.spu with latch := s.spu.latch.write o v }).nextFree).Inv :=
    { h with spu := { h.spu with latch := Cells.within_write h.spu.latch ho v } }
  unfold Machine.spuBusWrite
  dsimp only
  split
  · exact h1
  · split
    · exact h1
    · exact h1.spuPort _ _

/-! ### The bus -/

theorem State.Inv.ioWrite {s : State} (h : s.Inv) {o : Nat} (ho : o < 0x80) (v : Byte) :
    (ioWrite s o v (ioReg s.cfg o)).Inv := by
  have plain : ioReg s.cfg o = .plain ∨ ioReg s.cfg o = .dma → isPlainCell s.cfg o = true := fun h => by
    unfold isPlainCell
    rcases h with h | h <;> simp [h]
  generalize ioReg s.cfg o = r at plain
  cases r
  case div => exact { h with timer := ⟨(Config.sound h.cfg).divPeriod, h.timer.timaSub⟩ }
  case tima => exact { h with timer := ⟨h.timer.divSub, h.timer.timaSub⟩ }
  case tma => exact { h with timer := ⟨h.timer.divSub, h.timer.timaSub⟩ }
  case tac => exact { h with timer := ⟨h.timer.divSub, h.timer.timaSub⟩ }
  case intFlag => exact { h with }
  case ly => exact h
  case romb => exact { h with }
  case ramb => exact { h with }
  case ramg => exact { h with }
  case lcdc => exact { h with ppu := h.ppu.writeLcdc v }
  case dma =>
    have hl := io_write_legal h.store ho (plain (.inr rfl)) v
    obtain ⟨m, hm⟩ := oamTransfer_eq v (s.setStore { s.store with io := s.store.io.write o v })
    have ht := oamTransfer_legal v (s.setStore { s.store with io := s.store.io.write o v }) hl
    rw [hm] at ht
    unfold Machine.ioWrite
    dsimp only
    rw [hm]
    exact { h with store := ht }
  case spu => exact h.spuBusWrite ho v
  case plain => exact { h with store := io_write_legal h.store ho (plain (.inl rfl)) v }
  all_goals exact { h with ppu := h.ppu.of_eq rfl rfl rfl rfl rfl }

theorem State.Inv.writeWram {s : State} (h : s.Inv) (b : Nat) {o : Nat} (ho : o < 0x1000) (v : Byte) :
    (s.setStore (s.store.writeWram b o v)).Inv :=
  { h with store := { h.store with
      wramCount := (Store.length_writeWram ..).trans h.store.wramCount
      wram := Store.within_writeWram h.store.wram b ho v } }

/-- A bus write keeps every array canonical and the state legal. -/
theorem State.Inv.busWrite {s : State} (h : s.Inv) (a : Word) (v : Byte) : (busWrite s a v).Inv := by
  have ho := region_offset (Config.sound h.cfg).map a
  have hs := h.store
  unfold Machine.busWrite
  cases hr : region s.cfg a <;> rw [hr] at ho <;> dsimp only at ho
  case vram o => exact { h with store := { hs with vram := Cells.within_write hs.vram ho v } }
  case eram o =>
    unfold regionWrite
    dsimp only
    split
    · exact h
    · next hg =>
      exact { h with store :=
        { hs with eram := Cells.within_write hs.eram (eramIndex_lt (fun h => hg (.inl h)) ho) v } }
  case wramFixed o => exact h.writeWram 0 ho v
  case wramSwitch o => exact h.writeWram 1 ho v
  case oam o => exact { h with store := { hs with oam := Cells.within_write hs.oam ho v } }
  case io o => exact h.ioWrite ho v
  case hram o => exact { h with store := { hs with hram := Cells.within_write hs.hram ho v } }
  case ie => exact { h with }
  all_goals exact h

/-- What elementary updates build from a legal state is legal. -/
theorem Built.inv {s t : State} (h : Built s t) (hs : s.Inv) : t.Inv := by
  induction h with
  | refl => exact hs
  | setRegs g hg _ ih => exact { ih with regs := hg ih.regs }
  | busWrite a v _ ih => exact ih.busWrite a v
  | setEiPending v hv _ ih => exact { ih with eiLatch := hv }
  | setIme v _ ih => exact { ih with }
  | setHalted v _ ih => exact { ih with }
  | logEvent e _ ih => exact { ih with }
  | charge n _ ih => exact { ih with }

/-! ## Interrupts -/

theorem State.Inv.dispatchTo {s : State} (h : s.Inv) (n : Nat) : (dispatchTo n s).Inv := by
  have h1 : ((s.clearPending n).setIme false).Inv := { h with }
  exact ((Built.refl.push16 (s.clearPending n).regs.pc).setPc (s.cfg.intVector n)
    |>.charge s.cfg.intDispatchCycles).inv h1

theorem State.Inv.serviceInterrupts {s : State} (h : s.Inv) : (serviceInterrupts s).Inv := by
  unfold Machine.serviceInterrupts
  split
  · exact h.dispatchTo _
  · exact h

/-! ## The timer -/

theorem le_foldr_max {l : List Nat} {n : Nat} (h : n ∈ l) : n ≤ l.foldr max 1 := by
  induction l with
  | nil => cases h
  | cons m l ih =>
    simp only [List.foldr_cons]
    rcases List.mem_cons.1 h with rfl | h
    · exact Nat.le_max_left _ _
    · exact (ih h).trans (Nat.le_max_right _ _)

theorem one_le_foldr_max (l : List Nat) : 1 ≤ l.foldr max 1 := by
  induction l with
  | nil => exact Nat.le_refl 1
  | cons m l ih => exact ih.trans (Nat.le_max_right _ _)

/-- No period is longer than the range of the prescaler. -/
theorem timaPeriod_le (c : Config) (tac : BitVec 3) : timaPeriod c tac ≤ c.timaSubRange := by
  unfold timaPeriod Config.timaPeriod Config.timaSubRange
  rw [List.getD_eq_getElem?_getD]
  cases h : c.timaPeriods[(tac.setWidth 2).toNat]? with
  | none => exact one_le_foldr_max _
  | some n => exact le_foldr_max (List.mem_of_getElem? h)

theorem Timer.Legal.stepDivider {cfg : Config} (hc : cfg.Sound) {t : Timer} (h : t.Legal cfg) :
    (t.stepDivider cfg).Legal cfg := by
  unfold Timer.stepDivider
  have := h.divSub
  split
  · exact ⟨hc.divPeriod, h.timaSub⟩
  · exact ⟨by dsimp only; omega, h.timaSub⟩

theorem Timer.Legal.stepCounter {cfg : Config} {t : Timer} (h : t.Legal cfg) : (t.stepCounter cfg).Legal cfg := by
  unfold Timer.stepCounter
  have := timaPeriod_le cfg t.tac
  split
  · split
    · exact ⟨h.divSub, one_le_foldr_max _⟩
    · exact ⟨h.divSub, by dsimp only; omega⟩
  · exact h

/-- A timer cycle changes the timer and the pending bits only. -/
theorem timerCycle_eq (s : State) :
    ∃ f, timerCycle s = { s with timer := (s.timer.stepDivider s.cfg).stepCounter s.cfg, ifReg := f } := by
  unfold timerCycle
  dsimp only
  split <;> exact ⟨_, rfl⟩

theorem State.Inv.timerCycle {s : State} (h : s.Inv) : (timerCycle s).Inv := by
  obtain ⟨f, hf⟩ := timerCycle_eq s
  rw [hf]
  exact { h with timer := (h.timer.stepDivider (Config.sound h.cfg)).stepCounter }

/-! ## The pixel pipeline -/

/-- Entering a mode writes the mode, the counter and the pending bits. -/
theorem enterMode_eq (m : PpuMode) (s : State) :
    ∃ f, enterMode m s = { s with ppu := { s.ppu with mode := m, dot := 0 }, ifReg := f } := by
  unfold enterMode
  dsimp only
  split <;> exact ⟨_, rfl⟩

/-- Setting `LY` writes it and the pending bits. -/
theorem setLy_eq (v : Byte) (s : State) :
    ∃ f, setLy v s = { s with ppu := { s.ppu with ly := v }, ifReg := f } := by
  unfold setLy
  dsimp only
  split <;> exact ⟨_, rfl⟩

/-- The end of HBLANK writes the mode, the counter, `LY` and the pending bits. -/
theorem endHblank_eq (s : State) :
    ∃ f, endHblank s = { s with
      ppu := { s.ppu with
        ly := s.ppu.ly + 1#8, dot := 0
        mode := if (s.ppu.ly + 1#8).toNat = Config.visibleLines then .vblank else .oamScan }
      ifReg := f } := by
  obtain ⟨f, hf⟩ := setLy_eq (s.ppu.ly + 1#8) s
  unfold endHblank
  simp only [hf]
  split
  · obtain ⟨g, hg⟩ := enterMode_eq .vblank { s with ppu := { s.ppu with ly := s.ppu.ly + 1#8 }, ifReg := f }
    simp only [hg]
    exact ⟨_, rfl⟩
  · obtain ⟨g, hg⟩ := enterMode_eq .oamScan { s with ppu := { s.ppu with ly := s.ppu.ly + 1#8 }, ifReg := f }
    simp only [hg]
    exact ⟨_, rfl⟩

/-- The end of a VBLANK line writes the mode, the counter, `LY` and the pending bits. -/
theorem endVblankLine_eq (s : State) :
    ∃ f, endVblankLine s = { s with
      ppu := { s.ppu with
        ly := if s.ppu.ly = 153#8 then 0#8 else s.ppu.ly + 1#8, dot := 0
        mode := if s.ppu.ly = 153#8 then .oamScan else s.ppu.mode }
      ifReg := f } := by
  unfold endVblankLine
  dsimp only
  split
  · obtain ⟨f, hf⟩ := setLy_eq 0#8 (s.setPpu { s.ppu with dot := 0 })
    simp only [hf]
    obtain ⟨g, hg⟩ := enterMode_eq .oamScan
      { s.setPpu { s.ppu with dot := 0 } with ppu := { s.ppu with dot := 0, ly := 0#8 }, ifReg := f }
    exact ⟨g, hg⟩
  · exact setLy_eq (s.ppu.ly + 1#8) (s.setPpu { s.ppu with dot := 0 })

/-- Rendering writes the frame buffer. -/
theorem renderCurrentLine_eq (s : State) (h : Cells.within s.ppu.fb (Config.visibleLines * s.cfg.fbWidth)) :
    ∃ fb, renderCurrentLine s = { s with ppu := { s.ppu with fb := fb } } ∧
      Cells.within fb (Config.visibleLines * s.cfg.fbWidth) := by
  unfold renderCurrentLine
  split
  · next hv =>
    refine ⟨_, rfl, Cells.within_fill h ?_ _⟩
    rw [← Nat.succ_mul]
    exact Nat.mul_le_mul_right _ hv
  · exact ⟨s.ppu.fb, rfl, h⟩

theorem succ_toNat {v : Byte} (h : v.toNat ≤ 153) : (v + 1#8).toNat = v.toNat + 1 := by
  rw [BitVec.toNat_add]
  exact Nat.mod_eq_of_lt (by simp; omega)

/-- The pipeline after a PPU cycle, the pending bits aside. -/
theorem ppuCycle_eq (s : State) (hc : 1 ≤ s.cfg.lineCycles) (h : s.ppu.Legal s.cfg) :
    ∃ p f, ppuCycle s = { s with ppu := p, ifReg := f } ∧ p.Legal s.cfg := by
  have hl := succ_toNat h.lineBound
  unfold ppuCycle
  split
  case isFalse => exact ⟨_, _, rfl, h⟩
  case isTrue hen =>
  have hline := h.line hen
  have hdot := h.dot
  have stay : ∀ m : PpuMode, s.ppu.mode = m → s.ppu.dot + 1 ≠ m.budget s.cfg →
      Ppu.Legal { s.ppu with dot := s.ppu.dot + 1 } s.cfg := fun m hm hne =>
    ⟨by subst hm; dsimp only; omega, h.line, h.lineBound, h.disabled, h.fb⟩
  have off : ∀ P : Prop, s.ppu.lcdc.getLsbD 7 = false → P := fun P hd => by rw [hen] at hd; cases hd
  dsimp only
  split
  · next hm =>
    rw [hm] at hline
    split
    · obtain ⟨f, hf⟩ := enterMode_eq .pixelTransfer (s.setPpu { s.ppu with dot := s.ppu.dot + 1 })
      rw [hf]
      exact ⟨_, _, rfl, (by decide : 0 < 172), fun _ => hline, h.lineBound, off _, h.fb⟩
    · next hne => exact ⟨_, _, rfl, stay _ hm hne⟩
  · next hm =>
    rw [hm] at hline
    split
    · obtain ⟨fb, hr, hfb⟩ := renderCurrentLine_eq (s.setPpu { s.ppu with dot := s.ppu.dot + 1 }) h.fb
      rw [hr]
      obtain ⟨f, hf⟩ := enterMode_eq .hblank
        { s.setPpu { s.ppu with dot := s.ppu.dot + 1 } with ppu := { s.ppu with dot := s.ppu.dot + 1, fb := fb } }
      exact ⟨_, _, hf, (by decide : 0 < 204), fun _ => hline, h.lineBound, off _, hfb⟩
    · next hne => exact ⟨_, _, rfl, stay _ hm hne⟩
  · next hm =>
    rw [hm] at hline
    have hline : s.ppu.ly.toNat ≤ 143 := hline
    split
    · obtain ⟨f, hf⟩ := endHblank_eq (s.setPpu { s.ppu with dot := s.ppu.dot + 1 })
      rw [hf]
      refine ⟨_, _, rfl, ?_, fun _ => ?_, ?_, off _, h.fb⟩
      · dsimp only
        split
        · exact hc
        · exact (by decide : 0 < 80)
      · show PpuMode.lineLegal (if (s.ppu.ly + 1#8).toNat = Config.visibleLines then .vblank else .oamScan)
          (s.ppu.ly + 1#8).toNat
        rw [hl]
        unfold Config.visibleLines
        split <;> simp only [PpuMode.lineLegal] <;> omega
      · show (s.ppu.ly + 1#8).toNat ≤ 153
        omega
    · next hne => exact ⟨_, _, rfl, stay _ hm hne⟩
  · next hm =>
    rw [hm] at hline
    have hline : 144 ≤ s.ppu.ly.toNat ∧ s.ppu.ly.toNat ≤ 153 := hline
    split
    · obtain ⟨f, hf⟩ := endVblankLine_eq (s.setPpu { s.ppu with dot := s.ppu.dot + 1 })
      rw [hf]
      have hne : s.ppu.ly ≠ 153#8 → s.ppu.ly.toNat ≠ 153 := fun hn he => hn (BitVec.eq_of_toNat_eq he)
      refine ⟨_, _, rfl, ?_, fun _ => ?_, ?_, off _, h.fb⟩
      · show 0 < PpuMode.budget s.cfg (if s.ppu.ly = 153#8 then .oamScan else s.ppu.mode)
        rw [hm]
        split
        · exact (by decide : 0 < 80)
        · exact hc
      · show PpuMode.lineLegal (if s.ppu.ly = 153#8 then .oamScan else s.ppu.mode)
          (if s.ppu.ly = 153#8 then 0#8 else s.ppu.ly + 1#8).toNat
        rw [hm]
        split
        · simp [PpuMode.lineLegal]
        · next hn =>
          have := hne hn
          simp only [PpuMode.lineLegal, hl]
          omega
      · show (if s.ppu.ly = 153#8 then 0#8 else s.ppu.ly + 1#8).toNat ≤ 153
        split
        · simp
        · next hn =>
          have := hne hn
          omega
    · next hne => exact ⟨_, _, rfl, stay _ hm hne⟩

theorem State.Inv.ppuCycle {s : State} (h : s.Inv) : (ppuCycle s).Inv := by
  obtain ⟨p, f, hf, hp⟩ := ppuCycle_eq s (Config.sound h.cfg).lineCycles h.ppu
  rw [hf]
  exact { h with ppu := hp }

theorem State.Inv.peripheralCycles {s : State} (h : s.Inv) (n : Nat) : (peripheralCycles n s).Inv := by
  induction n generalizing s with
  | zero => exact h
  | succ n ih => exact ih h.timerCycle.ppuCycle

/-! ## The synthesizer -/

theorem Voice.Legal.step {cfg : Config} (hc : cfg.Sound) {v : Voice} (h : v.Legal cfg) (sram : Cells 16) :
    (v.step cfg sram).1.Legal cfg := by
  have he := h.env
  have hp (u : Voice) : (u.advance cfg).pos < cfg.sramSamples * cfg.pitchOne :=
    Nat.mod_lt _ (Nat.mul_pos hc.samples hc.pitchOne)
  unfold Voice.step
  split
  · next hk =>
    show ((v.stepEnvelope cfg).advance cfg).Legal cfg
    refine ⟨?_, hp _, ?_⟩
    · show (v.stepEnvelope cfg).env ≤ cfg.envMax
      unfold Voice.stepEnvelope
      split
      · dsimp only
        split
        · exact Nat.zero_le _
        · dsimp only
          omega
      · exact Nat.min_le_left _ _
    · show (v.stepEnvelope cfg).keyOff = true → (v.stepEnvelope cfg).keyOn = true
      unfold Voice.stepEnvelope
      split
      · dsimp only
        split
        · exact fun hf => by cases hf
        · exact fun _ => hk
      · exact fun _ => hk
  · exact h

theorem SpuCore.Legal.mix {cfg : Config} (hc : cfg.Sound) {k : SpuCore} (h : k.Legal cfg) :
    (k.mix cfg).1.length = cfg.nVoices ∧ ∀ v ∈ (k.mix cfg).1, v.Legal cfg := by
  unfold SpuCore.mix
  refine ⟨by simp [h.count], fun v hv => ?_⟩
  simp only [List.map_map, List.mem_map, Function.comp_apply] at hv
  obtain ⟨u, hu, rfl⟩ := hv
  exact (h.voices u hu).step hc k.sram

theorem SpuCore.Legal.step {cfg : Config} (hc : cfg.Sound) {k : SpuCore} (h : k.Legal cfg) :
    (k.step cfg).1.Legal cfg := by
  have hm := h.mix hc
  have hf : (k.frame cfg).1.Legal cfg := by
    unfold SpuCore.frame
    dsimp only
    split
    · exact { h with
        count := hm.1, voices := hm.2
        rvbL := Cells.within_write h.rvbL h.rvbIdx _, rvbR := Cells.within_write h.rvbR h.rvbIdx _
        rvbIdx := Nat.mod_lt _ hc.reverbDelay }
    · exact { h with count := hm.1, voices := hm.2 }
  unfold SpuCore.step
  dsimp only
  split
  · exact { hf with }
  · exact hf

/-- A step of the synthesizer steps every core, appends one frame, and may set a pending bit. -/
theorem spuStep_eq (s : State) :
    ∃ l r f, spuStep s = { s with
      spu := { s.spu with
        cores := s.spu.cores.map fun k => (k.step s.cfg).1, outbuf := s.spu.outbuf ++ [l, r] }
      ifReg := f } := by
  unfold spuStep
  dsimp only
  rw [List.map_map]
  split
  · split <;> exact ⟨_, _, _, rfl⟩
  · exact ⟨_, _, _, rfl⟩

theorem State.Inv.spuPhase {s : State} (h : s.Inv) : (spuPhase s).Inv := by
  have hp := h.spu.phase
  have hc := Config.sound h.cfg
  unfold Machine.spuPhase
  split
  · obtain ⟨l, r, f, he⟩ := spuStep_eq (s.setSpu { s.spu with phase := 0 })
    rw [he]
    refine { h with spu := ⟨by simp [h.spu.count], fun k hk => ?_, hc.stepPeriod, h.spu.latch⟩ }
    simp only [State.setSpu_spu, State.setSpu_cfg, List.mem_map] at hk
    obtain ⟨d, hd, rfl⟩ := hk
    exact (h.spu.cores d hd).step hc
  · refine { h with spu := ⟨h.spu.count, h.spu.cores, ?_, h.spu.latch⟩ }
    show s.spu.phase + 1 < s.cfg.spuStepPeriod
    omega

end Machine

end Sys2Proof
end

