-- ==== Sys2Proof/Laws/Ppu.lean ====
section
/-! SUPPORT. Rendering reads neither the mode nor its counter. -/

namespace Sys2Proof.Machine

theorem selectSprites_mode (c : Config) (p : Ppu) (m : PpuMode) (d : Nat) (oam : Memory) (ly : Nat) :
    selectSprites c { p with mode := m, dot := d } oam ly = selectSprites c p oam ly := rfl

theorem underPixel_mode (p : Ppu) (m : PpuMode) (d : Nat) (vram : Memory) (x ly : Nat) :
    underPixel { p with mode := m, dot := d } vram x ly = underPixel p vram x ly := rfl

theorem spriteShade_mode (p : Ppu) (m : PpuMode) (d : Nat) (vram oam : Memory) (under : BitVec 2) (x ly : Nat)
    (sel : List Nat) :
    spriteShade { p with mode := m, dot := d } vram oam under x ly sel = spriteShade p vram oam under x ly sel := by
  induction sel with
  | nil => rfl
  | cons i sel ih => simp only [spriteShade, ih]; rfl

theorem linePixel_mode (p : Ppu) (m : PpuMode) (d : Nat) (vram oam : Memory) (sel : List Nat) (ly : Nat) :
    linePixel { p with mode := m, dot := d } vram oam sel ly = linePixel p vram oam sel ly := by
  funext x
  simp only [linePixel, underPixel_mode, spriteShade_mode]

theorem renderScanline_mode (c : Config) (p : Ppu) (m : PpuMode) (d : Nat) (vram oam : Memory) (ly : Nat) :
    renderScanline c { p with mode := m, dot := d } vram oam ly =
      { renderScanline c p vram oam ly with mode := m, dot := d } := by
  simp only [renderScanline, selectSprites_mode, linePixel_mode]

end Sys2Proof.Machine
end

