-- ==== Sys2Proof/Tests/Slice0.lean ====
section
/-! SUPPORT. Tests. Expected results come from the spec: the encodings of 30_encoding.md, the vectors of
95_test_vectors.md (named by their ids there) and the rules cited. The last part has, for every obligation with
hypotheses, a witness that meets them together. -/

namespace Sys2Proof.Tests

open Sys2Proof.Machine

/-! ## Small states -/

/-- The reset state with a zero ROM image of two banks, the start of the vectors. -/
def rom : State := State.reset.setStore { Store.fresh with romBanks := 2 }

/-- `rom` with registers, an instruction's bytes at `PC` and a few bytes of memory. -/
def start (bytes : List Byte) (regs : Regs) (cells : List (Word × Byte)) : State :=
  cells.foldl (fun s c => poke s c.1 c.2) (pokeBytes { rom with regs := regs } regs.pc bytes)

/-- The instruction at `PC`, fetched, decoded and executed. -/
def executed (s : State) : Option State :=
  match exec (fetchInstr s) (fetched s) with
  | .next t => some t
  | _ => none

/-- One whole tick. -/
def ticked (s : State) : Option State :=
  match step s with
  | .next t => some t
  | _ => none

/-- The meaning of one instruction. -/
def ran (i : Instr) (s : State) : Option State :=
  match exec i s with
  | .next t => some t
  | _ => none

theorem exists_ticked {s : State} (h : (ticked s).isSome = true) : ∃ t, step s = .next t := by
  unfold ticked at h
  split at h
  · exact ⟨_, ‹_›⟩
  · cases h

theorem exists_ran {i : Instr} {s : State} (h : (ran i s).isSome = true) : ∃ t, exec i s = .next t := by
  unfold ran at h
  split at h
  · exact ⟨_, ‹_›⟩
  · cases h

/-! ## WellFormed refuses -/

theorem test_wellFormed_refuses_known_opcode : (Instr.unknown 0x00#8).wellFormed = false := by decide
theorem test_wellFormed_refuses_bare_prefix : (Instr.prefixCb 0x37#8).wellFormed = false := by decide
theorem test_wellFormed_admits_unknown : (Instr.unknown 0x10#8).wellFormed = true := by decide
/-- Whether every configuration of a list is ill-formed. -/
def refused (cs : List Config) : Bool := cs.all fun c => !c.wellFormed

theorem test_config_refuses_fixed_address : refused [{ Config.ref with ioRomb := 0xFF46#16 }] = true := by decide
theorem test_config_refuses_outside_io : refused [{ Config.ref with ioRamb := 0xFF80#16 }] = true := by decide
theorem test_config_refuses_shared_address : refused [{ Config.ref with ioRamg := 0xFF70#16 }] = true := by decide
theorem test_config_refuses_17_banks : refused [{ Config.ref with ramBanks := 17 }] = true := by decide

/-- The address of a bank register, of a fixed row, and one outside the I/O file. -/
theorem test_config_refuses_spu_address_taken :
    refused ([0xFF71#16, 0xFF40#16, 0xC000#16].map fun a =>
      { Config.ref with spuIoMap := [⟨a, 0, none, [], []⟩] }) = true := by decide

/-- Two regions at one address, an address in no region, ROM above 0x7FFF, an array too small, an echo of no RAM. -/
theorem test_config_refuses_map :
    refused ([{ MemoryMap.ref with vram := ⟨0x8000, 0xA000⟩, hram := ⟨0xFF81, 0xFFFE⟩ },
        { MemoryMap.ref with unmapped := ⟨0xFEA1, 0xFEFF⟩ },
        { MemoryMap.ref with romSwitch := ⟨0x8000, 0x9FFF⟩, vram := ⟨0x4000, 0x5FFF⟩, eram := ⟨0x6000, 0x7FFF⟩ },
        { MemoryMap.ref with oam := ⟨0xFE00, 0xFEA0⟩, unmapped := ⟨0xFEA1, 0xFEFF⟩ },
        { MemoryMap.ref with mirrorOffset := 0x1000 }].map fun m => { Config.ref with memoryMap := m }) = true := by
  decide

theorem test_config_refuses_table_entry :
    refused [{ Config.ref with instrTable := ⟨[(0x00#8, some 0xD3#8)], []⟩ }] = true := by decide

/-- Each count, period, length and reset value that the rules need. -/
theorem test_config_refuses_insane :
    refused [{ Config.ref with spuStepPeriod := 0 }, { Config.ref with nSpuCores := 0 }, { Config.ref with divPeriod := 0 },
      { Config.ref with timaPeriods := [1024, 16, 64] }, { Config.ref with timaPeriods := [1024, 0, 64, 256] },
      { Config.ref with intVectors := [] }, { Config.ref with lineCycles := 0 }, { Config.ref with haltIdleCycles := 0 },
      { Config.ref with unknownOpCycles := 0 }, { Config.ref with sramSamples := 0 }, { Config.ref with pitchOne := 0 },
      { Config.ref with reverbDelay := 0 }, { Config.ref with wramBanks := 1 },
      { Config.ref with resetRegs := { Config.ref.resetRegs with f := 1#8 } },
      { Config.ref with resetIo := [(0x40, 0x11#8)] }] = true := by decide

theorem test_config_admits_reference : Config.ref.wellFormed = true := by decide

/-! ## Words by hand, from 30_encoding.md R152 to R154 -/

theorem test_decode_ld_C_L : decode [0b01001101#8] = .ok (.ld_C_L, []) := rfl
theorem test_decode_ld_atHL_D : decode [0b01110010#8] = .ok (.ld_atHL_D, []) := rfl
theorem test_decode_ld_H_d8 : decode [0b00100110#8, 0x99#8] = .ok (.ld_H_d8 0x99#8, []) := rfl
theorem test_decode_ld_SP_d16 : decode [0b00110001#8, 0xFE#8, 0xFF#8] = .ok (.ld_SP_d16 0xFFFE#16, []) := rfl
theorem test_decode_ldh_A : decode [0xF0#8, 0x44#8] = .ok (.ldh_A_atA8 0x44#8, []) := rfl
theorem test_decode_pop_DE : decode [0b11010001#8] = .ok (.pop_DE, []) := rfl
theorem test_decode_sbc_A_E : decode [0b10011011#8] = .ok (.sbc_A_E, []) := rfl
theorem test_decode_xor_d8 : decode [0b11101110#8, 0x0F#8] = .ok (.xor_d8 0x0F#8, []) := rfl
theorem test_decode_inc_L : decode [0b00101100#8] = .ok (.inc_L, []) := rfl
theorem test_decode_dec_DE : decode [0b00011011#8] = .ok (.dec_DE, []) := rfl
theorem test_decode_add_HL_SP : decode [0b00111001#8] = .ok (.add_HL_SP, []) := rfl
theorem test_decode_swap_A : decode [0xCB#8, 0b00110111#8] = .ok (.swap_A, []) := rfl
theorem test_decode_res_5_E : decode [0xCB#8, 0b10101011#8] = .ok (.res_5_E, []) := rfl
theorem test_decode_jp_NC : decode [0b11010010#8, 0x34#8, 0x12#8] = .ok (.jp_NC_a16 0x1234#16, []) := rfl
theorem test_decode_call_C : decode [0b11011100#8, 0x00#8, 0x20#8] = .ok (.call_C_a16 0x2000#16, []) := rfl
theorem test_decode_ret_Z : decode [0b11001000#8] = .ok (.ret_Z, []) := rfl
theorem test_decode_rst_30 : decode [0b11110111#8] = .ok (.rst_30, []) := rfl
theorem test_decode_halt : decode [0b01110110#8] = .ok (.halt, []) := rfl
theorem test_decode_needs_operand : decode [0xCD#8, 0x34#8] = .error .truncated := rfl
/-- A table that lacks 0x78 and gives 0xD3 the operation of 0x3C. -/
theorem test_table_selects :
    let t : InstrTable := ⟨[(0x78#8, none), (0xD3#8, some 0x3C#8)], [(0x30#8, 0x37#8)]⟩
    (t.instr 0x78#8 0#8 0#8, t.length 0x78#8, t.instr 0xD3#8 0#8 0#8, t.instr 0xCB#8 0x30#8 0#8) =
      (.unknown 0x78#8, 1, .inc_A, .swap_A) := by decide

theorem test_table_word_cb : decodeTableWord 16 0xCB37 = some .swap_A := rfl
theorem test_table_word_operand : decodeTableWord 24 0x1234C3 = some (.jp_a16 0x1234#16) := rfl

/-! ## The vectors of 95_test_vectors.md: one instruction -/

/-! ### Loads, stores and the stack -/

theorem test_V1_LD_B_d8 :
    (executed (start [0x06#8, 0x5A#8] Regs.reset [])).map
      (fun t => (t.regs.b, t.regs.pc, t.cycles)) =
      some (0x5A#8, 0x0102#16, 8) := by decide

theorem test_V2_LD_A_B :
    (executed (start [0x78#8] { Regs.reset with b := 0x12#8, a := 0xFF#8 } [])).map
      (fun t => (t.regs.a, t.regs.b, t.regs.pc, t.cycles)) =
      some (0x12#8, 0x12#8, 0x0101#16, 4) := by decide

theorem test_V3_LD_HL_d8 :
    (executed (start [0x36#8, 0x99#8] { Regs.reset with h := 0xC0#8, l := 0x00#8 } [])).map
      (fun t => (busRead t 0xC000#16, t.regs.pc, t.cycles)) =
      some (0x99#8, 0x0102#16, 12) := by decide

theorem test_V5_LD_HL_B :
    (executed (start [0x70#8] { Regs.reset with h := 0xE0#8, l := 0x10#8, b := 0x77#8 } [])).map
      (fun t => (busRead t 0xC010#16, busRead t 0xE010#16, t.regs.pc, t.cycles)) =
      some (0x77#8, 0x77#8, 0x0101#16, 8) := by decide

theorem test_V6_LD_A_HL :
    (executed (start [0x2A#8] { Regs.reset with h := 0xC0#8, l := 0xFF#8 } [(0xC0FF#16, 0x42#8)])).map
      (fun t => (t.regs.a, t.hl, t.regs.pc, t.cycles)) =
      some (0x42#8, 0xC100#16, 0x0101#16, 8) := by decide

theorem test_V7_LD_A_HL :
    (executed { start [0x2A#8] { Regs.reset with h := 0xFF#8, l := 0xFF#8 } [] with ieReg := 0x15#5 }).map
      (fun t => (t.regs.a, t.hl, t.regs.pc, t.cycles)) =
      some (0x15#8, 0x0000#16, 0x0101#16, 8) := by decide

theorem test_V8_LD_HL_A :
    (executed (start [0x32#8] { Regs.reset with h := 0x00#8, l := 0x00#8, a := 0x55#8 } [])).map
      (fun t => (t.hl, busRead t 0x0000#16, t.regs.pc, t.cycles)) =
      some (0xFFFF#16, 0x00#8, 0x0101#16, 8) := by decide

theorem test_V9_LD_A_HL :
    (executed (start [0x3A#8] { Regs.reset with h := 0xC0#8, l := 0x00#8 } [(0xC000#16, 0x9C#8)])).map
      (fun t => (t.regs.a, t.hl, t.regs.pc, t.cycles)) =
      some (0x9C#8, 0xBFFF#16, 0x0101#16, 8) := by decide

theorem test_V10_LD_BC_A :
    (executed (start [0x02#8] { Regs.reset with b := 0xC1#8, c := 0x23#8, a := 0x5E#8 } [])).map
      (fun t => (busRead t 0xC123#16, t.regs.pc, t.cycles)) =
      some (0x5E#8, 0x0101#16, 8) := by decide

theorem test_V11_LD_A_DE :
    (executed (start [0x1A#8] { Regs.reset with d := 0x01#8, e := 0x50#8 } [(0x0150#16, 0xA7#8)])).map
      (fun t => (t.regs.a, t.regs.pc, t.cycles)) =
      some (0xA7#8, 0x0101#16, 8) := by decide

theorem test_V12_LDH_a8_A :
    (executed (start [0xE0#8, 0x80#8] { Regs.reset with a := 0x3C#8 } [])).map
      (fun t => (busRead t 0xFF80#16, t.regs.pc, t.cycles)) =
      some (0x3C#8, 0x0102#16, 12) := by decide

theorem test_V14_LD_C_A :
    (executed (start [0xE2#8] { Regs.reset with c := 0x81#8, a := 0x11#8 } [])).map
      (fun t => (busRead t 0xFF81#16, t.regs.pc, t.cycles)) =
      some (0x11#8, 0x0101#16, 8) := by decide

theorem test_V15_LD_A_C :
    (executed { start [0xF2#8] { Regs.reset with c := 0x0F#8 } [] with ifReg := 0x1F#5 }).map
      (fun t => (t.regs.a, t.regs.pc, t.cycles)) =
      some (0x1F#8, 0x0101#16, 8) := by decide

theorem test_V16_LD_a16_A :
    (executed (start [0xEA#8, 0x34#8, 0xC2#8] { Regs.reset with a := 0xAB#8 } [])).map
      (fun t => (busRead t 0xC234#16, t.regs.pc, t.cycles)) =
      some (0xAB#8, 0x0103#16, 16) := by decide

theorem test_V17_LD_A_a16 :
    (executed (start [0xFA#8, 0x34#8, 0xE2#8] Regs.reset [(0xC234#16, 0xCD#8)])).map
      (fun t => (t.regs.a, t.regs.pc, t.cycles)) =
      some (0xCD#8, 0x0103#16, 16) := by decide

theorem test_V18_LD_BC_d16 :
    (executed (start [0x01#8, 0x34#8, 0x12#8] Regs.reset [])).map
      (fun t => (t.regs.b, t.regs.c, t.regs.pc, t.cycles)) =
      some (0x12#8, 0x34#8, 0x0103#16, 12) := by decide

theorem test_V20_LD_a16_SP :
    (executed (start [0x08#8, 0x00#8, 0xC0#8] { Regs.reset with sp := 0xBEEF#16 } [])).map
      (fun t => (busRead t 0xC000#16, busRead t 0xC001#16, t.regs.pc, t.cycles)) =
      some (0xEF#8, 0xBE#8, 0x0103#16, 20) := by decide

theorem test_V21_LD_a16_SP :
    (executed (start [0x08#8, 0xFF#8, 0xDF#8] { Regs.reset with sp := 0x1234#16 } [])).map
      (fun t => (busRead t 0xDFFF#16, busRead t 0xE000#16, t.regs.pc, t.cycles)) =
      some (0x34#8, 0x12#8, 0x0103#16, 20) := by decide

theorem test_V22_LD_SP_HL :
    (executed (start [0xF9#8] { Regs.reset with h := 0xC8#8, l := 0x00#8 } [])).map
      (fun t => (t.regs.sp, t.regs.pc, t.cycles)) =
      some (0xC800#16, 0x0101#16, 8) := by decide

theorem test_V23_LD_HL_SP_e8 :
    (executed (start [0xF8#8, 0x02#8] { Regs.reset with sp := 0xFFFE#16, f := 0x80#8 } [])).map
      (fun t => (t.hl, t.regs.f, t.regs.sp, t.regs.pc, t.cycles)) =
      some (0x0000#16, 0x30#8, 0xFFFE#16, 0x0102#16, 12) := by decide

theorem test_V25_PUSH_BC :
    (executed (start [0xC5#8] { Regs.reset with b := 0x12#8, c := 0x34#8 } [])).map
      (fun t => (t.regs.sp, busRead t 0xFFFD#16, busRead t 0xFFFC#16, t.regs.pc, t.cycles)) =
      some (0xFFFC#16, 0x12#8, 0x34#8, 0x0101#16, 16) := by decide

theorem test_V27_POP_BC :
    (executed (start [0xC1#8] { Regs.reset with sp := 0xC000#16 } [(0xC000#16, 0x34#8), (0xC001#16, 0x12#8)])).map
      (fun t => (t.regs.b, t.regs.c, t.regs.sp, t.regs.pc, t.cycles)) =
      some (0x12#8, 0x34#8, 0xC002#16, 0x0101#16, 12) := by decide

theorem test_V28_POP_AF :
    (executed (start [0xF1#8] { Regs.reset with sp := 0xC000#16 } [(0xC000#16, 0xFF#8), (0xC001#16, 0x12#8)])).map
      (fun t => (t.regs.a, t.regs.f, t.regs.sp, t.regs.pc, t.cycles)) =
      some (0x12#8, 0xF0#8, 0xC002#16, 0x0101#16, 12) := by decide

theorem test_V29_POP_DE :
    (executed { start [0xD1#8] { Regs.reset with sp := 0xFFFF#16 } [(0x0000#16, 0x77#8)] with ieReg := 0x1F#5 }).map
      (fun t => (t.regs.d, t.regs.e, t.regs.sp, t.regs.pc, t.cycles)) =
      some (0x77#8, 0x1F#8, 0x0001#16, 0x0101#16, 12) := by decide

theorem test_V30_PUSH_HL :
    (executed (start [0xE5#8] { Regs.reset with sp := 0x0001#16, h := 0xAB#8, l := 0xCD#8 } [])).map
      (fun t => (t.regs.sp, busRead t 0x0000#16, busRead t 0xFFFF#16, t.regs.pc, t.cycles)) =
      some (0xFFFF#16, 0x00#8, 0x0D#8, 0x0101#16, 16) := by decide

/-! ### 8-bit arithmetic and logic -/

theorem test_V31_ADD_A_d8 :
    (executed (start [0xC6#8, 0xC6#8] { Regs.reset with a := 0x3A#8 } [])).map
      (fun t => (t.regs.a, t.regs.f, t.regs.pc, t.cycles)) =
      some (0x00#8, 0xB0#8, 0x0102#16, 8) := by decide

theorem test_V34_ADC_A_d8 :
    (executed (start [0xCE#8, 0x00#8] { Regs.reset with a := 0xFF#8, f := 0x10#8 } [])).map
      (fun t => (t.regs.a, t.regs.f, t.regs.pc, t.cycles)) =
      some (0x00#8, 0xB0#8, 0x0102#16, 8) := by decide

theorem test_V37_SUB_d8 :
    (executed (start [0xD6#8, 0x01#8] { Regs.reset with a := 0x10#8 } [])).map
      (fun t => (t.regs.a, t.regs.f, t.regs.pc, t.cycles)) =
      some (0x0F#8, 0x60#8, 0x0102#16, 8) := by decide

theorem test_V40_SBC_A_d8 :
    (executed (start [0xDE#8, 0x00#8] { Regs.reset with a := 0x00#8, f := 0x10#8 } [])).map
      (fun t => (t.regs.a, t.regs.f, t.regs.pc, t.cycles)) =
      some (0xFF#8, 0x70#8, 0x0102#16, 8) := by decide

theorem test_V42_SBC_A_A :
    (executed (start [0x9F#8] { Regs.reset with a := 0x42#8, f := 0x10#8 } [])).map
      (fun t => (t.regs.a, t.regs.f, t.regs.pc, t.cycles)) =
      some (0xFF#8, 0x70#8, 0x0101#16, 4) := by decide

theorem test_V43_AND_d8 :
    (executed (start [0xE6#8, 0x0F#8] { Regs.reset with a := 0xF0#8 } [])).map
      (fun t => (t.regs.a, t.regs.f, t.regs.pc, t.cycles)) =
      some (0x00#8, 0xA0#8, 0x0102#16, 8) := by decide

theorem test_V45_XOR_A :
    (executed (start [0xAF#8] { Regs.reset with a := 0x77#8, f := 0xF0#8 } [])).map
      (fun t => (t.regs.a, t.regs.f, t.regs.pc, t.cycles)) =
      some (0x00#8, 0x80#8, 0x0101#16, 4) := by decide

theorem test_V47_OR_B :
    (executed (start [0xB0#8] { Regs.reset with a := 0x00#8, b := 0x00#8, f := 0x70#8 } [])).map
      (fun t => (t.regs.a, t.regs.f, t.regs.pc, t.cycles)) =
      some (0x00#8, 0x80#8, 0x0101#16, 4) := by decide

theorem test_V50_CP_d8 :
    (executed (start [0xFE#8, 0x40#8] { Regs.reset with a := 0x3C#8 } [])).map
      (fun t => (t.regs.a, t.regs.f, t.regs.pc, t.cycles)) =
      some (0x3C#8, 0x50#8, 0x0102#16, 8) := by decide

theorem test_V51_CP_HL :
    (executed (start [0xBE#8] { Regs.reset with a := 0x10#8, h := 0xC0#8, l := 0x00#8 } [(0xC000#16, 0x01#8)])).map
      (fun t => (t.regs.a, t.regs.f, t.regs.pc, t.cycles)) =
      some (0x10#8, 0x60#8, 0x0101#16, 8) := by decide

theorem test_V52_INC_A :
    (executed (start [0x3C#8] { Regs.reset with a := 0xFF#8, f := 0x10#8 } [])).map
      (fun t => (t.regs.a, t.regs.f, t.regs.pc, t.cycles)) =
      some (0x00#8, 0xB0#8, 0x0101#16, 4) := by decide

theorem test_V54_INC_HL :
    (executed (start [0x34#8] { Regs.reset with h := 0xC0#8, l := 0x00#8 } [(0xC000#16, 0xFF#8)])).map
      (fun t => (busRead t 0xC000#16, t.regs.f, t.regs.pc, t.cycles)) =
      some (0x00#8, 0xA0#8, 0x0101#16, 12) := by decide

theorem test_V55_INC_HL :
    (executed (start [0x34#8] { Regs.reset with h := 0x01#8, l := 0x50#8 } [(0x0150#16, 0xFF#8)])).map
      (fun t => (busRead t 0x0150#16, t.regs.f, t.regs.pc, t.cycles)) =
      some (0xFF#8, 0xA0#8, 0x0101#16, 12) := by decide

theorem test_V56_DEC_A :
    (executed (start [0x3D#8] { Regs.reset with a := 0x01#8, f := 0x10#8 } [])).map
      (fun t => (t.regs.a, t.regs.f, t.regs.pc, t.cycles)) =
      some (0x00#8, 0xD0#8, 0x0101#16, 4) := by decide

theorem test_V59_DEC_HL :
    (executed (start [0x35#8] { Regs.reset with h := 0xFF#8, l := 0x80#8 } [(0xFF80#16, 0x01#8)])).map
      (fun t => (busRead t 0xFF80#16, t.regs.f, t.regs.pc, t.cycles)) =
      some (0x00#8, 0xC0#8, 0x0101#16, 12) := by decide

theorem test_V61_DAA :
    (executed (start [0x27#8] { Regs.reset with a := 0x9A#8, f := 0x00#8 } [])).map
      (fun t => (t.regs.a, t.regs.f, t.regs.pc, t.cycles)) =
      some (0x00#8, 0x90#8, 0x0101#16, 4) := by decide

theorem test_V64_DAA :
    (executed (start [0x27#8] { Regs.reset with a := 0xFF#8, f := 0x70#8 } [])).map
      (fun t => (t.regs.a, t.regs.f, t.regs.pc, t.cycles)) =
      some (0x99#8, 0x50#8, 0x0101#16, 4) := by decide

theorem test_V68_CPL :
    (executed (start [0x2F#8] { Regs.reset with a := 0x35#8, f := 0x90#8 } [])).map
      (fun t => (t.regs.a, t.regs.f, t.regs.pc, t.cycles)) =
      some (0xCA#8, 0xF0#8, 0x0101#16, 4) := by decide

theorem test_V69_SCF :
    (executed (start [0x37#8] { Regs.reset with f := 0xE0#8 } [])).map
      (fun t => (t.regs.f, t.regs.pc, t.cycles)) =
      some (0x90#8, 0x0101#16, 4) := by decide

theorem test_V70_CCF :
    (executed (start [0x3F#8] { Regs.reset with f := 0xF0#8 } [])).map
      (fun t => (t.regs.f, t.regs.pc, t.cycles)) =
      some (0x80#8, 0x0101#16, 4) := by decide

/-! ### 16-bit arithmetic -/

theorem test_V72_ADD_HL_BC :
    (executed (start [0x09#8] { Regs.reset with h := 0x0F#8, l := 0xFF#8, b := 0x00#8, c := 0x01#8, f := 0x80#8 } [])).map
      (fun t => (t.hl, t.regs.f, t.regs.pc, t.cycles)) =
      some (0x1000#16, 0xA0#8, 0x0101#16, 8) := by decide

theorem test_V73_ADD_HL_DE :
    (executed (start [0x19#8] { Regs.reset with h := 0xFF#8, l := 0xFF#8, d := 0x00#8, e := 0x01#8, f := 0x00#8 } [])).map
      (fun t => (t.hl, t.regs.f, t.regs.pc, t.cycles)) =
      some (0x0000#16, 0x30#8, 0x0101#16, 8) := by decide

theorem test_V76_INC_BC :
    (executed (start [0x03#8] { Regs.reset with b := 0xFF#8, c := 0xFF#8, f := 0xF0#8 } [])).map
      (fun t => (t.regs.b, t.regs.c, t.regs.f, t.regs.pc, t.cycles)) =
      some (0x00#8, 0x00#8, 0xF0#8, 0x0101#16, 8) := by decide

theorem test_V77_DEC_SP :
    (executed (start [0x3B#8] { Regs.reset with sp := 0x0000#16 } [])).map
      (fun t => (t.regs.sp, t.regs.f, t.regs.pc, t.cycles)) =
      some (0xFFFF#16, 0x00#8, 0x0101#16, 8) := by decide

theorem test_V79_ADD_SP_e8 :
    (executed (start [0xE8#8, 0x01#8] { Regs.reset with sp := 0x00FF#16, f := 0xC0#8 } [])).map
      (fun t => (t.regs.sp, t.regs.f, t.regs.pc, t.cycles)) =
      some (0x0100#16, 0x30#8, 0x0102#16, 16) := by decide

theorem test_V82_ADD_SP_e8 :
    (executed (start [0xE8#8, 0x80#8] { Regs.reset with sp := 0x0080#16 } [])).map
      (fun t => (t.regs.sp, t.regs.f, t.regs.pc, t.cycles)) =
      some (0x0000#16, 0x10#8, 0x0102#16, 16) := by decide

/-! ### Rotates, shifts and bits -/

theorem test_V83_RLCA :
    (executed (start [0x07#8] { Regs.reset with a := 0x85#8 } [])).map
      (fun t => (t.regs.a, t.regs.f, t.regs.pc, t.cycles)) =
      some (0x0B#8, 0x10#8, 0x0101#16, 4) := by decide

theorem test_V85_RRCA :
    (executed (start [0x0F#8] { Regs.reset with a := 0x01#8 } [])).map
      (fun t => (t.regs.a, t.regs.f, t.regs.pc, t.cycles)) =
      some (0x80#8, 0x10#8, 0x0101#16, 4) := by decide

theorem test_V87_RLA :
    (executed (start [0x17#8] { Regs.reset with a := 0x00#8, f := 0x10#8 } [])).map
      (fun t => (t.regs.a, t.regs.f, t.regs.pc, t.cycles)) =
      some (0x01#8, 0x00#8, 0x0101#16, 4) := by decide

theorem test_V88_RRA :
    (executed (start [0x1F#8] { Regs.reset with a := 0x01#8, f := 0x10#8 } [])).map
      (fun t => (t.regs.a, t.regs.f, t.regs.pc, t.cycles)) =
      some (0x80#8, 0x10#8, 0x0101#16, 4) := by decide

theorem test_V89_RLC_B :
    (executed (start [0xCB#8, 0x00#8] { Regs.reset with b := 0x00#8, f := 0x10#8 } [])).map
      (fun t => (t.regs.b, t.regs.f, t.regs.pc, t.cycles)) =
      some (0x00#8, 0x80#8, 0x0102#16, 8) := by decide

theorem test_V91_RRC_C :
    (executed (start [0xCB#8, 0x09#8] { Regs.reset with c := 0x01#8 } [])).map
      (fun t => (t.regs.c, t.regs.f, t.regs.pc, t.cycles)) =
      some (0x80#8, 0x10#8, 0x0102#16, 8) := by decide

theorem test_V92_RL_D :
    (executed (start [0xCB#8, 0x12#8] { Regs.reset with d := 0x80#8, f := 0x00#8 } [])).map
      (fun t => (t.regs.d, t.regs.f, t.regs.pc, t.cycles)) =
      some (0x00#8, 0x90#8, 0x0102#16, 8) := by decide

theorem test_V93_RR_E :
    (executed (start [0xCB#8, 0x1B#8] { Regs.reset with e := 0x01#8, f := 0x10#8 } [])).map
      (fun t => (t.regs.e, t.regs.f, t.regs.pc, t.cycles)) =
      some (0x80#8, 0x10#8, 0x0102#16, 8) := by decide

theorem test_V94_SLA_H :
    (executed (start [0xCB#8, 0x24#8] { Regs.reset with h := 0x80#8 } [])).map
      (fun t => (t.regs.h, t.regs.f, t.regs.pc, t.cycles)) =
      some (0x00#8, 0x90#8, 0x0102#16, 8) := by decide

theorem test_V95_SRA_L :
    (executed (start [0xCB#8, 0x2D#8] { Regs.reset with l := 0x81#8 } [])).map
      (fun t => (t.regs.l, t.regs.f, t.regs.pc, t.cycles)) =
      some (0xC0#8, 0x10#8, 0x0102#16, 8) := by decide

theorem test_V97_SRL_A :
    (executed (start [0xCB#8, 0x3F#8] { Regs.reset with a := 0xFF#8, f := 0x00#8 } [])).map
      (fun t => (t.regs.a, t.regs.f, t.regs.pc, t.cycles)) =
      some (0x7F#8, 0x10#8, 0x0102#16, 8) := by decide

theorem test_V98_SWAP_A :
    (executed (start [0xCB#8, 0x37#8] { Regs.reset with a := 0xF1#8, f := 0x10#8 } [])).map
      (fun t => (t.regs.a, t.regs.f, t.regs.pc, t.cycles)) =
      some (0x1F#8, 0x00#8, 0x0102#16, 8) := by decide

theorem test_V100_RLC_HL :
    (executed (start [0xCB#8, 0x06#8] { Regs.reset with h := 0xC0#8, l := 0x00#8 } [(0xC000#16, 0x81#8)])).map
      (fun t => (busRead t 0xC000#16, t.regs.f, t.regs.pc, t.cycles)) =
      some (0x03#8, 0x10#8, 0x0102#16, 16) := by decide

theorem test_V101_BIT_7_H :
    (executed (start [0xCB#8, 0x7C#8] { Regs.reset with h := 0x80#8, f := 0x10#8 } [])).map
      (fun t => (t.regs.f, t.regs.pc, t.cycles)) =
      some (0x30#8, 0x0102#16, 8) := by decide

theorem test_V103_BIT_0_HL :
    (executed (start [0xCB#8, 0x46#8] { Regs.reset with h := 0xC0#8, l := 0x00#8 } [(0xC000#16, 0x01#8)])).map
      (fun t => (t.regs.f, t.regs.pc, t.cycles)) =
      some (0x20#8, 0x0102#16, 12) := by decide

theorem test_V104_RES_0_HL :
    (executed (start [0xCB#8, 0x86#8] { Regs.reset with h := 0xC0#8, l := 0x00#8, f := 0xF0#8 } [(0xC000#16, 0xFF#8)])).map
      (fun t => (busRead t 0xC000#16, t.regs.f, t.regs.pc, t.cycles)) =
      some (0xFE#8, 0xF0#8, 0x0102#16, 16) := by decide

theorem test_V105_SET_7_A :
    (executed (start [0xCB#8, 0xFF#8] { Regs.reset with a := 0x00#8 } [])).map
      (fun t => (t.regs.a, t.regs.f, t.regs.pc, t.cycles)) =
      some (0x80#8, 0x00#8, 0x0102#16, 8) := by decide

theorem test_V106_SET_0_HL :
    (executed (start [0xCB#8, 0xC6#8] { Regs.reset with h := 0x40#8, l := 0x00#8 } [])).map
      (fun t => (busRead t 0x4000#16, t.regs.pc, t.cycles)) =
      some (0x00#8, 0x0102#16, 16) := by decide

/-! ### Control transfer -/

theorem test_V107_JP_a16 :
    (executed (start [0xC3#8, 0x50#8, 0x01#8] Regs.reset [])).map
      (fun t => (t.regs.pc, t.cycles)) =
      some (0x0150#16, 16) := by decide

theorem test_V108_JP_NZ_a16 :
    (executed (start [0xC2#8, 0x50#8, 0x01#8] { Regs.reset with f := 0x80#8 } [])).map
      (fun t => (t.regs.pc, t.cycles)) =
      some (0x0103#16, 12) := by decide

theorem test_V111_JP_HL :
    (executed (start [0xE9#8] { Regs.reset with h := 0x40#8, l := 0x00#8 } [])).map
      (fun t => (t.regs.pc, t.cycles)) =
      some (0x4000#16, 4) := by decide

theorem test_V114_JR_e8 :
    (executed (start [0x18#8, 0x80#8] Regs.reset [])).map
      (fun t => (t.regs.pc, t.cycles)) =
      some (0x0082#16, 12) := by decide

theorem test_V116_JR_NZ_e8 :
    (executed (start [0x20#8, 0x10#8] { Regs.reset with f := 0x80#8 } [])).map
      (fun t => (t.regs.pc, t.cycles)) =
      some (0x0102#16, 8) := by decide

theorem test_V118_JR_NC_e8 :
    (executed (start [0x30#8, 0xFC#8] { Regs.reset with f := 0x00#8 } [])).map
      (fun t => (t.regs.pc, t.cycles)) =
      some (0x00FE#16, 12) := by decide

theorem test_V120_CALL_a16 :
    (executed (start [0xCD#8, 0x00#8, 0x02#8] Regs.reset [])).map
      (fun t => (t.regs.sp, busRead t 0xFFFD#16, busRead t 0xFFFC#16, t.regs.pc, t.cycles)) =
      some (0xFFFC#16, 0x01#8, 0x03#8, 0x0200#16, 24) := by decide

theorem test_V121_CALL_NZ_a16 :
    (executed (start [0xC4#8, 0x00#8, 0x02#8] { Regs.reset with f := 0x80#8 } [])).map
      (fun t => (t.regs.sp, t.regs.pc, t.cycles)) =
      some (0xFFFE#16, 0x0103#16, 12) := by decide

theorem test_V122_CALL_C_a16 :
    (executed (start [0xDC#8, 0x00#8, 0x02#8] { Regs.reset with f := 0x10#8 } [])).map
      (fun t => (t.regs.sp, busRead t 0xFFFD#16, busRead t 0xFFFC#16, t.regs.pc, t.cycles)) =
      some (0xFFFC#16, 0x01#8, 0x03#8, 0x0200#16, 24) := by decide

theorem test_V123_RET :
    (executed (start [0xC9#8] { Regs.reset with sp := 0xC000#16 } [(0xC000#16, 0x03#8), (0xC001#16, 0x01#8)])).map
      (fun t => (t.regs.sp, t.regs.pc, t.cycles)) =
      some (0xC002#16, 0x0103#16, 16) := by decide

theorem test_V124_RET_NZ :
    (executed (start [0xC0#8] { Regs.reset with sp := 0xC000#16, f := 0x00#8 } [(0xC000#16, 0x03#8), (0xC001#16, 0x01#8)])).map
      (fun t => (t.regs.sp, t.regs.pc, t.cycles)) =
      some (0xC002#16, 0x0103#16, 20) := by decide

theorem test_V125_RET_Z :
    (executed (start [0xC8#8] { Regs.reset with sp := 0xC000#16, f := 0x00#8 } [(0xC000#16, 0x03#8), (0xC001#16, 0x01#8)])).map
      (fun t => (t.regs.sp, t.regs.pc, t.cycles)) =
      some (0xC000#16, 0x0101#16, 8) := by decide

theorem test_V126_RETI :
    (executed (start [0xD9#8] { Regs.reset with sp := 0xC000#16 } [(0xC000#16, 0x03#8), (0xC001#16, 0x01#8)])).map
      (fun t => (t.regs.sp, t.ime, t.regs.pc, t.cycles)) =
      some (0xC002#16, true, 0x0103#16, 16) := by decide

theorem test_V128_RST_0x00 :
    (executed (start [0xC7#8] { Regs.reset with sp := 0xD000#16 } [])).map
      (fun t => (t.regs.sp, busRead t 0xCFFF#16, busRead t 0xCFFE#16, t.regs.pc, t.cycles)) =
      some (0xCFFE#16, 0x01#8, 0x01#8, 0x0000#16, 16) := by decide

/-! ### System -/

theorem test_V131_HALT :
    (executed (start [0x76#8] Regs.reset [])).map
      (fun t => (t.halted, t.regs.pc, t.cycles)) =
      some (true, 0x0101#16, 4) := by decide

theorem test_V132_DI :
    (executed { start [0xF3#8] Regs.reset [] with ime := true, ifReg := 0x01#5, ieReg := 0x00#5 }).map
      (fun t => (t.ime, t.ifReg, t.regs.pc, t.cycles)) =
      some (false, 0x01#5, 0x0101#16, 4) := by decide

theorem test_V133_EI :
    (executed { start [0xFB#8] Regs.reset [] with ime := false, ifReg := 0x04#5, ieReg := 0x04#5 }).map
      (fun t => (t.ime, t.ifReg, t.regs.pc, t.cycles)) =
      some (true, 0x04#5, 0x0101#16, 4) := by decide

theorem test_V135_UNKNOWN :
    (executed (start [0xD3#8] Regs.reset [])).map
      (fun t => (t.regs.pc, t.events, t.cycles)) =
      some (0x0101#16, [.unknownOpcode 0xD3#8 0x0100#16], 4) := by decide
/-! ## Whole ticks: dispatch, priority, halt (vectors I1 to I14) -/

section
set_option maxRecDepth 100000

theorem test_tick_runs_placed_word :
    (ticked (State.reset.withFetchWord 16 0xC6C6)).map (fun t => (t.regs.a, t.regs.f, t.regs.pc)) =
      some (0xC6#8, 0x00#8, 0x0102#16) := by decide

theorem test_I1_dispatch :
    (ticked { rom with ime := true, ieReg := 0x01#5, ifReg := 0x03#5 }).map
      (fun t => (t.ifReg, t.ime, t.regs.sp, busRead t 0xFFFD#16, busRead t 0xFFFC#16, t.cycles)) =
      some (0x02#5, false, 0xFFFC#16, 0x01#8, 0x00#8, 24) := by decide

theorem test_I3_priority :
    (ticked { rom with ime := true, ieReg := 0x1E#5, ifReg := 0x1F#5 }).map
      (fun t => (t.ifReg, t.ime, t.regs.pc, t.cycles)) = some (0x1D#5, false, 0x0049#16, 24) := by decide

theorem test_I6_latch_clear :
    (ticked { rom with ieReg := 0x1F#5, ifReg := 0x1F#5 }).map
      (fun t => (t.ifReg, t.regs.sp, t.regs.pc, t.cycles)) = some (0x1F#5, 0xFFFE#16, 0x0101#16, 4) := by decide

theorem test_I10_stack_in_rom :
    (ticked { rom with regs := { Regs.reset with sp := 0x0002#16 }, ime := true, ieReg := 0x01#5, ifReg := 0x01#5 }).map
      (fun t => (t.regs.sp, busRead t 0x0001#16, t.regs.pc)) = some (0x0000#16, 0x00#8, 0x0041#16) := by decide

theorem test_I11_idle :
    (ticked { start [0x3C#8] Regs.reset [] with halted := true }).map
      (fun t => (t.halted, t.regs.a, t.regs.pc, t.cycles)) = some (true, 0x00#8, 0x0100#16, 4) := by decide

theorem test_I14_wake_without_dispatch :
    (ticked { start [0x3C#8] Regs.reset [] with halted := true, ifReg := 0x02#5 }).map
      (fun t => (t.halted, t.regs.a, t.ifReg, t.regs.pc)) = some (false, 0x01#8, 0x02#5, 0x0101#16) := by decide

theorem test_no_rom_refused : step State.reset = .refused .noRomLoaded := rfl

theorem test_run_refused :
    run 0 State.reset = .refused .noRomLoaded ∧ runUntil 0 State.reset = .refused .noRomLoaded := ⟨rfl, rfl⟩

/-- The tick that crosses the total completes: two `NOP`s for 5 cycles. -/
theorem test_runUntil_crosses :
    (match runUntil 5 rom with
      | .next (t, n) => some (t.regs.pc, n)
      | _ => none) = some (0x0102#16, 8) := by decide

/-! ## The bus (vectors B3 to B15) -/

theorem test_B4_echo :
    (busRead (busWrite rom 0xE000#16 0xA5#8) 0xC000#16, busRead (busWrite rom 0xFDFF#16 0x77#8) 0xDDFF#16) =
      (0xA5#8, 0x77#8) := by decide

theorem test_B9_ram_gate :
    (busRead (busWrite rom 0xA000#16 0x11#8) 0xA000#16,
      busRead (busWrite (busWrite rom 0xFF72#16 0x01#8) 0xA000#16 0x22#8) 0xA000#16) = (0x00#8, 0x22#8) := by decide

theorem test_B12_five_bits :
    (busRead (busWrite rom 0xFFFF#16 0xFF#8) 0xFFFF#16, busRead (busWrite rom 0xFF0F#16 0xE5#8) 0xFF0F#16) =
      (0x1F#8, 0x05#8) := by decide

/-- 61_ppu.md R640: a disabled pipeline reads mode 0, whatever mode a load has left. -/
theorem test_stat_disabled :
    busRead (rom.setPpu { Ppu.reset with lcdc := 0x11#8, mode := .pixelTransfer, lyc := 1#8 }) 0xFF41#16 = 0#8 := by decide

theorem test_B13_stat : busRead (busWrite rom 0xFF41#16 0xFF#8) 0xFF41#16 = 0x7E#8 := by decide
theorem test_B15_ly : busRead (busWrite rom 0xFF44#16 0x55#8) 0xFF44#16 = 0x00#8 := by decide

theorem test_B22_dma_from_echo :
    busRead (busWrite (busWrite rom 0xC000#16 0x42#8) 0xFF46#16 0xE0#8) 0xFE00#16 = 0x42#8 := by decide

/-! ## Timer, pixel pipeline, synthesizer -/

theorem test_T7_overflow :
    let t := timerCycle (rom.setTimer { Timer.reset with tac := 5#3, tima := 0xFF#8, tma := 0x80#8, timaSub := 15 })
    (t.timer.tima, t.timer.timaSub, t.ifReg) = (0x80#8, 0, 0x04#5) := by decide

theorem test_T14_prescaler_past_period :
    (timerCycle (rom.setTimer { Timer.reset with tac := 5#3, timaSub := 500 })).timer.tima = 0x01#8 := by decide

theorem test_ppu_enters_vblank :
    let t := ppuCycle (rom.setPpu { Ppu.reset with mode := .hblank, dot := 203, ly := 143#8 })
    (t.ppu.mode, t.ppu.dot, t.ppu.ly, t.ifReg) = (.vblank, 0, 144#8, 0x01#5) := by decide

theorem test_S1_hblank_source :
    (enterMode .hblank (rom.setPpu { Ppu.reset with stat := 1#4 })).ifReg = 0x02#5 := by decide

theorem test_G1_tile :
    (List.range 4).map (linePixel { Ppu.reset with bgp := 0xE4#8 } [(0x10, 0x3C#8), (0x11, 0x7E#8), (0x1800, 0x01#8)] [] [] 0) =
      [0#2, 2#2, 3#2, 3#2] := by decide

theorem test_G18_priority :
    (List.range 2).map (fun x =>
      linePixel { Ppu.reset with bgp := 0xE4#8, obp0 := 0xE4#8, lcdc := 0x93#8 }
        [(0x10, 0x3C#8), (0x11, 0x7E#8), (0x20, 0xFF#8), (0x1800, 0x02#8)]
        [(0, 0x10#8), (1, 0x0C#8), (2, 0x01#8), (3, 0x80#8)] [0] 0 (x + 7)) = [1#2, 3#2] := by decide

theorem test_A3_attack :
    (Voice.step Config.ref [] { Voice.reset with keyOn := true, attack := 0x7FFE#16 }).1.env = 0x7FFF := by decide

theorem test_A8_rounds_down :
    (Voice.step Config.ref [(0, 0xC000#16)] { Voice.reset with keyOn := true, attack := 0x7FFE#16, volume := 0x4000#16 }).2 =
      -8192 := by decide

theorem test_A17_irq : (SpuCore.step Config.ref { SpuCore.reset with irqEnable := true }).1.irqFlag = true := by decide

/-- A configuration that maps three addresses: the low byte of a volume, its high byte, and key-on with the voice in the
byte written. -/
def mappedCfg : Config :=
  { Config.ref with
    spuIoMap :=
      [⟨0xFF10#16, 0, none, [], []⟩,
        ⟨0xFF11#16, 0, some .setVolume, [.const 3#8], [.written 0x10, .written 0x11]⟩,
        ⟨0xFF7F#16, 0, some .keyOn, [.written 0x7F], []⟩] }

/-- `rom` with that configuration. -/
def mapped : State := { rom with cfg := mappedCfg }

theorem test_mapped_write_sets_volume :
    ((busWrite (busWrite mapped 0xFF10#16 0x34#8) 0xFF11#16 0x12#8).spu.cores.map fun k =>
      (k.voices.map Voice.volume).take 5) = [[0#16, 0#16, 0#16, 0x1234#16, 0#16]] := by decide

theorem test_mapped_write_keys_on :
    ((busWrite mapped 0xFF7F#16 1#8).spu.cores.map fun k => (k.voices.map Voice.keyOn).take 3) =
      [[false, true, false]] := by decide

end

/-! ## Witnesses

`witness_<Obligation>` meets the hypotheses of that obligation, clause by clause, at the ends of its ranges. -/

section
set_option maxRecDepth 100000

theorem voice_legal : Voice.reset.Legal Config.ref := ⟨by decide, by decide, by decide⟩

theorem core_legal : SpuCore.reset.Legal Config.ref :=
  ⟨by decide, fun v hv => by rw [List.eq_of_mem_replicate hv]; exact voice_legal, by decide, by decide, by decide, by decide,
    by decide, by decide⟩

/-- `rom` is a legal state. -/
theorem rom_inv : rom.Inv where
  cfg := by decide
  regs := by unfold Regs.Legal; decide
  store := by refine ⟨?_, ?_, ?_, ?_, ?_, ?_, ?_, ?_, ?_, ?_⟩ <;> decide
  timer := ⟨by decide, by decide⟩
  ppu := ⟨by decide, fun _ => Nat.zero_le _, by decide, by decide, by decide⟩
  spu := ⟨by decide, fun k hk => by rw [List.mem_singleton.1 hk]; exact core_legal, by decide, by decide⟩
  eiLatch := by decide

theorem inv_regs (g : Regs) (h : g.f = 0#8) : { rom with regs := g }.Inv :=
  { rom_inv with regs := by unfold Regs.Legal; simp only [h]; decide }

theorem witness_DecodeInvertsEncode : (Instr.ld_A_d8 0xFF#8).wellFormed = true := by decide

theorem witness_EncodeInvertsDecode : decode [0x3E#8, 0xFF#8, 0x00#8] = .ok (.ld_A_d8 0xFF#8, [0x00#8]) := rfl

/-- Bytes the table of `CFG_REF` lacks and has; in another table one that is lacking, one of another operation, one that
is the prefix. -/
theorem witness_DecodeTotal :
    (0x10#8 ∈ unknownOpcodes ∧ 0xFD#8 ∈ unknownOpcodes ∧ 0x00#8 ∉ unknownOpcodes) ∧
    let t : InstrTable := ⟨[(0x78#8, none), (0xD3#8, some 0x3C#8)], []⟩
    t.row 0x78#8 = none ∧ t.row 0xD3#8 = some 0x3C#8 ∧ 0x3C#8 ≠ 0xCB#8 ∧ t.row 0xCB#8 = some 0xCB#8 := by decide

theorem witness_StepRunsDecodedInstruction :
    let s := start [0xC3#8, 0x50#8, 0x01#8] Regs.reset []
    s.cfg.instrTable = InstrTable.ref ∧ s.store.romBanks ≠ 0 ∧ s.halted = false ∧ s.dispatches = false ∧
    decode [busRead s s.regs.pc, busRead s (s.regs.pc + 1#16), busRead s (s.regs.pc + 2#16)] =
      .ok (.jp_a16 0x0150#16, []) :=
  ⟨rfl, by decide, rfl, by decide, rfl⟩

/-- The lowest and the highest interrupt. -/
theorem witness_DispatchPrecedesFetch :
    let s0 : State := { rom with ime := true, ieReg := 0x1F#5, ifReg := 0x03#5 }
    let s4 : State := { rom with ime := true, ieReg := 0x10#5, ifReg := 0x1F#5 }
    (s0.store.romBanks ≠ 0 ∧ s0.ime = true ∧ 0 < 5 ∧ (s0.ifReg &&& s0.ieReg).getLsbD 0 = true ∧
      ∀ m, m < 0 → (s0.ifReg &&& s0.ieReg).getLsbD m = false) ∧
    (s4.store.romBanks ≠ 0 ∧ s4.ime = true ∧ 4 < 5 ∧ (s4.ifReg &&& s4.ieReg).getLsbD 4 = true ∧
      ∀ m, m < 4 → (s4.ifReg &&& s4.ieReg).getLsbD m = false) := by decide

theorem witness_HaltedTicks :
    let s : State := { rom with halted := true }
    let masked : State := { s with cfg := { Config.ref with haltWakeMasked := true }, ifReg := 1#5 }
    (s.store.romBanks ≠ 0 ∧ s.halted = true ∧ s.ifReg = 0#5) ∧
    ({ s with ifReg := 1#5 }.halted = true ∧ { s with ifReg := 1#5 }.ifReg ≠ 0#5 ∧ s.cfg.haltWakeMasked = false) ∧
    (masked.halted = true ∧ masked.ifReg &&& masked.ieReg = 0#5 ∧ masked.cfg.haltWakeMasked = true ∧
      masked.store.romBanks ≠ 0) ∧
    ({ masked with ieReg := 1#5 }.halted = true ∧
      { masked with ieReg := 1#5 }.ifReg &&& { masked with ieReg := 1#5 }.ieReg ≠ 0#5) := by decide

theorem witness_EveryStepCompletes :
    rom.store.romBanks ≠ 0 ∧ rom.cfg.wellFormed = true ∧ State.reset.store.romBanks = 0 ∧
    (∃ v, run 0 rom = .next (v, 0)) ∧ 0 < 1 := ⟨by decide, by decide, rfl, ⟨_, rfl⟩, by decide⟩

/-- A tick that dispatches and one that does not. -/
theorem witness_StepCycleCount :
    (rom.cfg.haltIdleCycles = 4 ∧ rom.cfg.unknownOpCycles = 4 ∧ rom.cfg.intDispatchCycles = 20) ∧
    (∃ t, step rom = .next t) ∧ rom.dispatches = false ∧
    (∃ t, step { rom with ime := true, ieReg := 1#5, ifReg := 1#5 } = .next t) ∧
    State.dispatches { rom with ime := true, ieReg := 1#5, ifReg := 1#5 } = true :=
  ⟨by decide, exists_ticked (by decide), by decide, exists_ticked (by decide), by decide⟩

/-- A pending bit; a tick that steps the synthesizer and one that does not. -/
theorem witness_PeripheralsKeepCpu :
    { rom with ifReg := 0x10#5 }.ifReg.getLsbD 4 = true ∧ rom.spu.phase + 1 = rom.cfg.spuStepPeriod ∧
    rom.spu.phase + 1 ≠ { rom with cfg := { rom.cfg with spuStepPeriod := 2 } }.cfg.spuStepPeriod := by decide

theorem witness_StepKeepsInv : rom.Inv ∧ ∃ t, step rom = .next t := ⟨rom_inv, exists_ticked (by decide)⟩

/-- A configuration the construction refuses and one it takes; plain cells and others. -/
theorem witness_ResetRule :
    { Config.ref with ramBanks := 17 }.wellFormed = false ∧ (∃ s, construct Config.ref = some s) ∧
    rom.cfg = Config.ref ∧ SpuCore.reset ∈ (hostReset rom).spu.cores ∧
    (0x7F < 0x80 ∧ isPlainCell rom.cfg 0x7F = true) ∧ isPlainCell rom.cfg 0x40 = false :=
  ⟨by decide, ⟨_, rfl⟩, rfl, by decide, by decide, by decide⟩

/-- The two ends of work RAM. -/
theorem witness_PushThenPop :
    (∀ sp ∈ [0xC002#16, 0xE000#16],
      let s : State := { rom with regs := { Regs.reset with sp := sp } }
      s.Inv ∧ s.cfg.memoryMap = MemoryMap.ref ∧ 0xC002 ≤ s.regs.sp.toNat ∧ s.regs.sp.toNat ≤ 0xE000) ∧
    ∀ p : StackPair, ∃ t u, exec (Instr.push p) { rom with regs := { Regs.reset with sp := 0xC002#16 } } = .next t ∧
      exec (Instr.pop p) t = .next u := by
  refine ⟨fun sp h => ⟨inv_regs _ rfl, rfl, ?_⟩, fun p => ?_⟩
  · simp only [List.mem_cons, List.not_mem_nil, or_false] at h
    rcases h with rfl | rfl <;> decide
  · cases p <;> exact ⟨_, _, rfl, rfl⟩

theorem witness_SystemInstructions : 0x10#8 ∈ unknownOpcodes ∧ 0xFD#8 ∈ unknownOpcodes := by decide

/-- Every instruction of a list runs. -/
theorem all_run {is : List Instr} {s : State} (h : (is.all fun i => (ran i s).isSome) = true) :
    ∀ i ∈ is, ∃ t, exec i s = .next t :=
  fun i hi => exists_ran (List.all_eq_true.mp h i hi)

theorem witness_LoadFrame :
    (∀ i ∈ [Instr.ldRegReg .b .a, Instr.ldRegReg .a .b, Instr.ldRegMem .b, Instr.ldRegMem .a, Instr.ldRegImm .b 0#8,
        Instr.ldRegImm .a 0xFF#8, .ld_A_atBC, .ld_A_atDE, .ld_A_atC, .ld_A_atA16 0xFFFF#16, .ldh_A_atA8 0xFF#8,
        .ld_A_atHLinc, .ld_A_atHLdec, Instr.ldPairImm .bc 0#16, Instr.ldPairImm .sp 0xFFFF#16, .ld_SP_HL,
        .ld_HL_SPe8 0x80#8, Instr.pop .bc, Instr.pop .af],
      ∃ t, exec i rom = .next t) ∧ rom.regs.Legal :=
  ⟨all_run (by decide), rom_inv.regs⟩

/-- A store runs, and some bytes are out of its reach. -/
theorem witness_StoreFrame :
    (∀ i ∈ [Instr.ldMemReg .b, Instr.ldMemReg .a, .ld_atHL_d8 0xFF#8, .ld_atBC_A, .ld_atDE_A, .ld_atA16_A 0xFFFF#16,
        .ldh_atA8_A 0xFF#8, .ld_atC_A, .ld_atHLinc_A, .ld_atHLdec_A, .ld_atA16_SP 0xFFFF#16, Instr.push .bc,
        Instr.push .af],
      ∃ t, exec i rom = .next t) ∧
    reaches Config.ref 0xC000#16 0xC001#16 = false ∧ reaches Config.ref 0xC000#16 0xE000#16 = true ∧
    reaches Config.ref 0xFF46#16 0xFDFF#16 = false ∧ reaches Config.ref 0xFF46#16 0xFE00#16 = true :=
  ⟨all_run (by decide), by decide⟩

theorem witness_ArithmeticFrame :
    AluOp.add ≠ .cp ∧
    ∀ i ∈ [Instr.aluReg .add .b, Instr.aluMem .or, Instr.aluImm .sbc 0xFF#8, Instr.aluReg .cp .a, Instr.aluMem .cp,
        Instr.aluImm .cp 0#8, Instr.incReg .b, Instr.decReg .a, .daa, .cpl, .rlca, .rrca, .rla, .rra, .scf, .ccf,
        Instr.addHl .bc, Instr.addHl .sp, Instr.incPair .bc, Instr.incPair .sp, Instr.decPair .hl, Instr.decPair .sp,
        .add_SP_e8 0x80#8, Instr.rotReg .rlc .b, Instr.rotReg .srl .a, Instr.bitReg .i0 .b, Instr.bitReg .i7 .a,
        Instr.bitMem .i7, Instr.resReg .i0 .a, Instr.setReg .i7 .b],
      ∃ t, exec i rom = .next t :=
  ⟨by decide, all_run (by decide)⟩

theorem witness_ReadModifyWriteFrame :
    ∀ i ∈ [Instr.inc_atHL, .dec_atHL, Instr.rotMem .rlc, Instr.rotMem .srl, Instr.resMem .i0, Instr.resMem .i7,
        Instr.setMem .i0, Instr.setMem .i7],
      ∃ t, exec i rom = .next t :=
  all_run (by decide)

/-- Conditions met and not met. -/
theorem witness_ControlFrame :
    rom.holds .nz = true ∧ rom.holds .z = false ∧
    ∀ i ∈ [Instr.jp_a16 0xFFFF#16, Instr.jpCond .nz 0#16, Instr.jpCond .c 0#16, .jp_HL, .jr_e8 0x80#8,
        Instr.jrCond .z 0x7F#8, .call_a16 0#16, Instr.callCond .nz 0#16, Instr.callCond .z 0#16, Instr.rst .i0,
        Instr.rst .i7, .ret, Instr.retCond .nz, Instr.retCond .z, .nop],
      ∃ t, exec i rom = .next t :=
  ⟨by decide, by decide, all_run (by decide)⟩

theorem witness_RomWritesDiscarded :
    rom.cfg.wellFormed = true ∧ (0x0000#16).toNat ≤ 0x7FFF ∧ (0x7FFF#16).toNat ≤ 0x7FFF := by decide

/-- `rom` with external RAM absent. -/
def noEram : State := { rom with cfg := { Config.ref with ramBanks := 0 } }

/-- `rom` with external RAM enabled. -/
def openEram : State := rom.setBank { Bank.reset with ramEnable := true }

/-- The two ends of each region; external RAM absent, closed and open. -/
theorem witness_BusRegions :
    (rom.cfg.memoryMap = MemoryMap.ref ∧ noEram.cfg.memoryMap = MemoryMap.ref ∧
      openEram.cfg.memoryMap = MemoryMap.ref ∧ rom.store.romBanks ≠ 0) ∧
    (∀ a ∈ [0x0000#16, 0x3FFF#16], a.toNat ≤ 0x3FFF) ∧
    (∀ a ∈ [0x4000#16, 0x7FFF#16], 0x4000 ≤ a.toNat ∧ a.toNat ≤ 0x7FFF) ∧
    (∀ a ∈ [0x8000#16, 0x9FFF#16], 0x8000 ≤ a.toNat ∧ a.toNat ≤ 0x9FFF) ∧
    (∀ a ∈ [0xC000#16, 0xCFFF#16], 0xC000 ≤ a.toNat ∧ a.toNat ≤ 0xCFFF) ∧
    (∀ a ∈ [0xD000#16, 0xDFFF#16], 0xD000 ≤ a.toNat ∧ a.toNat ≤ 0xDFFF) ∧
    (∀ a ∈ [0xE000#16, 0xFDFF#16], 0xE000 ≤ a.toNat ∧ a.toNat ≤ 0xFDFF) ∧
    (∀ a ∈ [0xFE00#16, 0xFE9F#16], 0xFE00 ≤ a.toNat ∧ a.toNat ≤ 0xFE9F) ∧
    (∀ a ∈ [0xFEA0#16, 0xFEFF#16], 0xFEA0 ≤ a.toNat ∧ a.toNat ≤ 0xFEFF) ∧
    (∀ a ∈ [0xFF80#16, 0xFFFE#16], 0xFF80 ≤ a.toNat ∧ a.toNat ≤ 0xFFFE) ∧
    (∀ a ∈ [0xA000#16, 0xBFFF#16], 0xA000 ≤ a.toNat ∧ a.toNat ≤ 0xBFFF) ∧ noEram.cfg.ramBanks = 0 ∧
    rom.cfg.ramBanks ≠ 0 ∧ rom.bank.ramEnable = false ∧ openEram.cfg.ramBanks ≠ 0 ∧
    openEram.bank.ramEnable = true := by
  refine ⟨⟨rfl, rfl, rfl, by decide⟩, by simp, by simp, by simp, by simp, by simp, by simp, by simp, by simp, by simp,
    by simp, rfl, by decide, rfl, by decide, rfl⟩

/-- Each array at its ends, a mirrored byte under both names, and a byte out of reach. -/
theorem witness_RamReadsBack :
    rom.Inv ∧ rom.cfg.memoryMap = MemoryMap.ref ∧
    (∀ a ∈ [0x8000#16, 0x9FFF#16, 0xC000#16, 0xFE9F#16, 0xFF80#16, 0xFFFE#16],
      (0x8000 ≤ a.toNat ∧ a.toNat ≤ 0x9FFF) ∨ (0xC000 ≤ a.toNat ∧ a.toNat ≤ 0xFE9F) ∨
        (0xFF80 ≤ a.toNat ∧ a.toNat ≤ 0xFFFE)) ∧
    openEram.Inv ∧ openEram.cfg.memoryMap = MemoryMap.ref ∧ openEram.cfg.ramBanks ≠ 0 ∧ openEram.bank.ramEnable = true ∧
    0xFDFF#16 - 0x2000#16 = 0xDDFF#16 ∧ reaches Config.ref 0xC000#16 0xBFFF#16 = false :=
  ⟨rom_inv, rfl, by simp, { rom_inv with }, rfl, by decide, by decide, by decide, by decide⟩

theorem witness_ComponentRegisters : rom.cfg.memoryMap = MemoryMap.ref := rfl

/-- Plain cells at the ends of the I/O file, in `CFG_REF` and beside mapped addresses. -/
theorem witness_BankRegistersAndPlainCells :
    (rom.cfg.wellFormed = true ∧ mapped.cfg.wellFormed = true) ∧
    (∀ a ∈ [0xFF00#16, 0xFF03#16, 0xFF4C#16, 0xFF7F#16], rom.cfg.memoryMap.io.first ≤ a.toNat ∧
      a.toNat ≤ rom.cfg.memoryMap.io.last ∧
      a.toNat - rom.cfg.memoryMap.io.first ∉
        [0x04, 0x05, 0x06, 0x07, 0x0F, 0x40, 0x41, 0x42, 0x43, 0x44, 0x45, 0x46, 0x47, 0x48, 0x49, 0x4A, 0x4B] ∧
      a ≠ rom.cfg.ioRomb ∧ a ≠ rom.cfg.ioRamb ∧ a ≠ rom.cfg.ioRamg ∧ ∀ r ∈ rom.cfg.spuIoMap, r.addr ≠ a) ∧
    ∀ r ∈ mapped.cfg.spuIoMap, r.addr ≠ 0xFF7E#16 := by
  refine ⟨by decide, ?_, by decide⟩
  simp [rom, State.setStore, State.reset, Config.ref, MemoryMap.ref]

/-- A row without an operation and rows with one, at the last address too; a map without addresses. -/
theorem witness_MappedSpuWrites :
    mapped.cfg.wellFormed = true ∧ ⟨0xFF10#16, 0, none, [], []⟩ ∈ mapped.cfg.spuIoMap ∧
    ⟨0xFF11#16, 0, some .setVolume, [.const 3#8], [.written 0x10, .written 0x11]⟩ ∈ mapped.cfg.spuIoMap ∧
    ⟨0xFF7F#16, 0, some .keyOn, [.written 0x7F], []⟩ ∈ mapped.cfg.spuIoMap ∧ rom.cfg.spuIoMap = [] := by decide

theorem witness_OamTransfer : rom.Inv ∧ rom.cfg.memoryMap = MemoryMap.ref ∧ 0 < 160 ∧ 159 < 160 :=
  ⟨rom_inv, rfl, by decide, by decide⟩

/-- The latch clear; the latch set with every enabled bit not pending; the two ends of work RAM, the lowest and the highest
interrupt, a byte out of reach. -/
theorem witness_DispatchSavesPc :
    ({ rom with ieReg := 0x1F#5, ifReg := 0x1F#5 }.ime = false ∧
      ∀ n, n < 5 → (0x0F#5).getLsbD n = false ∨ (0x10#5).getLsbD n = false) ∧
    (∀ sp ∈ [0xC002#16, 0xE000#16],
      { rom with regs := { Regs.reset with sp := sp }, ime := true, ieReg := 0x1F#5, ifReg := 0x1F#5 }.Inv ∧
      0xC002 ≤ sp.toNat ∧ sp.toNat ≤ 0xE000) ∧
    { rom with regs := { Regs.reset with sp := 0xC002#16 }, ime := true, ieReg := 0x10#5, ifReg := 0x1F#5 }.Inv ∧
    rom.cfg.memoryMap = MemoryMap.ref ∧
    ((0x1F#5 &&& 0x1F#5).getLsbD 0 = true ∧ ∀ m, m < 0 → (0x1F#5 &&& 0x1F#5).getLsbD m = false) ∧
    ((0x1F#5 &&& 0x10#5).getLsbD 4 = true ∧ ∀ m, m < 4 → (0x1F#5 &&& 0x10#5).getLsbD m = false) ∧
    (reaches Config.ref 0xC001#16 0xC002#16 = false ∧ reaches Config.ref 0xC000#16 0xC002#16 = false ∧
      0xC002#16 ≠ 0xFF0F#16) := by
  refine ⟨by decide, fun sp h => ⟨{ inv_regs { Regs.reset with sp := sp } rfl with }, ?_⟩,
    { inv_regs { Regs.reset with sp := 0xC002#16 } rfl with }, rfl, by decide, by decide, by decide⟩
  simp only [List.mem_cons, List.not_mem_nil, or_false] at h
  rcases h with rfl | rfl <;> decide

/-- The divider one cycle before it wraps; the counter stopped; running at the start of each of the four periods, within
one and at its end; at an overflow and short of it. -/
theorem witness_TimerCounts :
    (rom.setTimer { Timer.reset with div := 0xFF#8, divSub := 255 }).timer.divSub < rom.cfg.divPeriod ∧
    rom.timer.tac.getLsbD 2 = false ∧ rom.cfg.wellFormed = true ∧
    (∀ tac ∈ [4#3, 5#3, 6#3, 7#3], (rom.setTimer { Timer.reset with tac := tac }).timer.tac.getLsbD 2 = true ∧
      (rom.setTimer { Timer.reset with tac := tac }).timer.timaSub = 0 ∧
      15 < rom.cfg.timaPeriods.getD (tac.toNat % 4) 0) ∧
    rom.cfg.timaPeriods.getD ((5#3).toNat % 4) 0 = 16 ∧
    (rom.setTimer { Timer.reset with tima := 0xFF#8 }).timer.tima = 0xFF#8 ∧ rom.timer.tima ≠ 0xFF#8 := by decide

/-- The running counter from a kept prescaler, and from one a change of rate has left above the new period. -/
theorem witness_TimerCounts_kept :
    (∀ sub ∈ [0, 15, 16, 1000], (rom.setTimer { Timer.reset with tac := 5#3, timaSub := sub }).timer.tac.getLsbD 2 = true) ∧
    15 < rom.cfg.timaPeriods.getD ((5#3).toNat % 4) 0 ∧ ¬16 < rom.cfg.timaPeriods.getD ((5#3).toNat % 4) 0 := by decide

/-- The first and the last visible line. -/
theorem witness_VisibleLineSchedule :
    ∀ ly ∈ [0#8, 143#8], (rom.setPpu { Ppu.reset with ly := ly }).ppu.lcdc.getLsbD 7 = true ∧
      (rom.setPpu { Ppu.reset with ly := ly }).ppu.mode = .oamScan ∧
      (rom.setPpu { Ppu.reset with ly := ly }).ppu.dot = 0 ∧ ly.toNat ≤ 143 := by decide

/-- The first and the last line of VBLANK. -/
theorem witness_VblankLineSchedule :
    ∀ ly ∈ [144#8, 153#8], (rom.setPpu { Ppu.reset with mode := .vblank, ly := ly }).ppu.lcdc.getLsbD 7 = true ∧
      (rom.setPpu { Ppu.reset with mode := .vblank, ly := ly }).ppu.mode = .vblank ∧
      (rom.setPpu { Ppu.reset with mode := .vblank, ly := ly }).ppu.dot = 0 ∧
      144 ≤ ly.toNat ∧ ly.toNat ≤ 153 ∧ 1 ≤ rom.cfg.lineCycles := by decide

/-- The pipeline on, at a cycle that enters a mode and changes `LY`. -/
theorem witness_StatSources :
    (rom.setPpu { Ppu.reset with mode := .hblank, dot := 203, ly := 143#8 }).ppu.lcdc.getLsbD 7 = true := by decide

/-- The first and the last visible line and column; the pipeline off; the window at its first pixel; neither window nor
background; the background. -/
theorem witness_RendersOneRow :
    (∀ ly ∈ [0#8, 143#8],
      let p := { Ppu.reset with mode := .pixelTransfer, dot := 171, ly := ly }
      p.lcdc.getLsbD 7 = true ∧ p.mode = .pixelTransfer ∧ p.dot = 171 ∧ p.ly.toNat ≤ 143 ∧ 0 < rom.cfg.fbWidth ∧
        159 < rom.cfg.fbWidth) ∧
    { Ppu.reset with lcdc := 0x11#8 }.lcdc.getLsbD 7 = false ∧
    (let p := { Ppu.reset with lcdc := 0xB1#8, wx := 7#8, wy := 143#8 };
      p.lcdc.getLsbD 1 = false ∧ p.lcdc.getLsbD 5 = true ∧ p.wy.toNat ≤ 143 ∧ p.wx.toNat ≤ 0 + 7) ∧
    (let p := { Ppu.reset with lcdc := 0x90#8 };
      p.lcdc.getLsbD 1 = false ∧ ¬(p.lcdc.getLsbD 5 = true ∧ p.wy.toNat ≤ 0 ∧ p.wx.toNat ≤ 0 + 7) ∧
        p.lcdc.getLsbD 0 = false) ∧
    (Ppu.reset.lcdc.getLsbD 1 = false ∧
      ¬(Ppu.reset.lcdc.getLsbD 5 = true ∧ Ppu.reset.wy.toNat ≤ 0 ∧ Ppu.reset.wx.toNat ≤ 0 + 7) ∧
      Ppu.reset.lcdc.getLsbD 0 = true) := by
  decide

/-- The first sprite on the first line, the last sprite on the last; a column left of a sprite, its first and its last
column, the column after it; a transparent sprite before an opaque one. -/
theorem witness_SpriteSelection :
    0 ∈ selectSprites Config.ref Ppu.reset [(0, 16#8)] 0 ∧
    (39 < Config.ref.oamEntries ∧ (Cells.read [(156, 152#8)] (4 * 39)).toNat ≤ 143 + 16 ∧
      143 + 16 < (Cells.read [(156, 152#8)] (4 * 39)).toNat + (if Ppu.reset.lcdc.getLsbD 2 then 16 else 8)) ∧
    (let oam : Memory := [(0, 16#8), (1, 9#8)];
      0 + 8 < (oam.read 1).toNat ∧ (oam.read 1).toNat ≤ 9 ∧
      ((oam.read 1).toNat ≤ 1 + 8 ∧ 1 < (oam.read 1).toNat ∧ (oam.read 1).toNat ≤ 8 + 8 ∧ 8 < (oam.read 1).toNat) ∧
      (oam.read 0).toNat ≤ 0 + 16 ∧ 0 + 16 < (oam.read 0).toNat + (if Ppu.reset.lcdc.getLsbD 2 then 16 else 8)) ∧
    (let p := { Ppu.reset with lcdc := 0x93#8 };
      let oam : Memory := [(0, 16#8), (1, 8#8), (4, 16#8), (5, 8#8), (6, 1#8)];
      p.lcdc.getLsbD 1 = true ∧ (∀ j ∈ [0], spritePixel p [(16, 0xFF#8)] oam j 0 0 = 0#2) ∧
        spritePixel p [(16, 0xFF#8)] oam 1 0 0 ≠ 0#2) := by
  decide

theorem witness_EnvelopeSchedule :
    (Config.ref.envMax = 0x7FFF ∧ ∀ r, Config.ref.envStep r = r + 1) ∧
    ({ Voice.reset with keyOn := true }.keyOn = true ∧ { Voice.reset with keyOn := true }.keyOff = false ∧
      { Voice.reset with keyOn := true }.env = 0) ∧
    ({ Voice.reset with keyOn := true, keyOff := true, env := 0x7FFF }.keyOn = true ∧
      { Voice.reset with keyOn := true, keyOff := true, env := 0x7FFF }.keyOff = true ∧
      { Voice.reset with keyOn := true, keyOff := true, env := 0x7FFF }.env = 0x7FFF) :=
  ⟨⟨rfl, fun _ => rfl⟩, by decide, by decide⟩

/-- An idle and a keyed voice; the SPU's IRQ line absent and present. -/
theorem witness_SpuFrames :
    Voice.reset.keyOn = false ∧ { Voice.reset with keyOn := true }.keyOn = true ∧ rom.cfg.spuIrqLine = none ∧
    { Config.ref with spuIrqLine := some 4 }.spuIrqLine = some 4 ∧ rom.spu.cores = [SpuCore.reset] ∧ SpuCore.reset.reverbEnable = false ∧
    ∀ v ∈ SpuCore.reset.voices, v.keyOn = false := by decide

/-- The last voice exists, the next does not. -/
theorem witness_SpuPortOperations :
    23 < SpuCore.reset.voices.length ∧ SpuCore.reset.voices.length ≤ 24 ∧ Cells.wf SpuCore.reset.sram := by decide

/-- Images of 2 and of 256 banks are taken, an empty one is not; a blob of another length is refused. -/
theorem witness_HostLoads :
    (loadRom romValidRef (List.replicate (2 * 0x4000) 0#8) rom).1 = true ∧
    (loadRom romValidRef (List.replicate (256 * 0x4000) 0#8) rom).1 = true ∧ (loadRom romValidRef [] rom).1 = false ∧
    rom.cfg.memoryMap = MemoryMap.ref ∧ ([] : List Byte).length ≠ blobSize rom.cfg ∧ (loadState [] rom).1 = false ∧
    rom.Inv ∧ rom.cfg.nSpuCores = 1 ∧
    ((0x3FFF#16).toNat ≤ 0x3FFF ∧ 0x4000 ≤ (0x4000#16).toNat ∧ (0x7FFF#16).toNat ≤ 0x7FFF) := by
  have accepted (n : Nat) (lo : 2 ≤ n) (hi : n ≤ 256) :
      (loadRom romValidRef (List.replicate (n * 0x4000) 0#8) rom).1 = true := by
    have : romAcceptable romValidRef (List.replicate (n * 0x4000) 0#8) = true := by
      simp only [romAcceptable, romValidRef, List.length_replicate, Config.romBankSize, Bool.and_eq_true,
        decide_eq_true_eq, and_true]
      omega
    simp [loadRom, this]
  exact ⟨accepted 2 (by decide) (by decide), accepted 256 (by decide) (by decide), by decide, rfl, by decide, by decide,
    rom_inv, rfl, by decide⟩

/-- The blob a machine saves is one it loads. -/
theorem rom_blob_loads : (loadState (saveState rom) rom).1 = true := by
  have core : (blobCore rom).voices.length = 24 := List.length_replicate
  have length := length_saveState rom
  have registers (i : Nat) (h : i < 24) := saveState_registers rom h
  have ppu (i : Nat) (h : i < 8) := saveState_ppu rom h
  have globals (i : Nat) (h : i < 16) := saveState_globals rom h
  have voices (v i : Nat) (hv : v < 24) (h : i < 24) :
      blobByte (saveState rom) (voiceOffset v + i) = (voiceRecord Voice.reset).getD i 0#8 := by
    rw [saveState_voice rom (core ▸ hv) h]
    congr 2
    exact List.getElem_replicate _
  have image (i : Nat) (h : i < 65536) := saveState_image rom h
  generalize saveState rom = b at length registers ppu globals voices image
  have zero (k off : Nat) (h : ∀ i, i < k → blobByte b (off + i) = 0#8) : blobNat b off k = 0 := by
    induction k generalizing off with
    | zero => rfl
    | succ k ih =>
      have h0 := h 0 (Nat.succ_pos k)
      have ht := ih (off + 1) fun i hi => by
        rw [Nat.add_assoc, Nat.add_comm 1]
        exact h (i + 1) (Nat.succ_lt_succ hi)
      unfold blobNat
      rw [show blobByte b off = 0#8 from h0, ht]
      rfl
  have none (off : Nat) (h : blobByte b off = 0#8) : blobBitOk b off = true := (blobBit_bitByte (v := false) h).2
  have reg (i : Nat) (hi : i < 24) (v : Byte) (h : (registerRecord rom).getD i 0#8 = v) : blobByte b (65536 + i) = v :=
    (registers i hi).trans h
  have pix (i : Nat) (hi : i < 8) (v : Byte) (h : (ppuRecord rom).getD i 0#8 = v) : blobByte b (65560 + i) = v :=
    (ppu i hi).trans h
  have glob (i : Nat) (hi : i < 12) : blobByte b (65568 + i) = 0#8 := by
    rw [globals i (by omega)]
    interval_cases i <;> rfl
  have voice (v i : Nat) (hv : v < 24) (hi : i < 24) : blobByte b (voiceOffset v + i) = 0#8 := by
    rw [voices v i hv hi]
    interval_cases i <;> rfl
  have hreg : registerRecordOk rom.cfg b = true := by
    unfold registerRecordOk
    have f : blobByte b 65537 = 0#8 := reg 1 (by decide) _ rfl
    have n1 := none 65548 (reg 12 (by decide) _ rfl)
    have n2 := none 65549 (reg 13 (by decide) _ rfl)
    have n3 := none 65550 (reg 14 (by decide) _ rfl)
    have n4 := none 65553 (reg 17 (by decide) _ rfl)
    have r : blobByte b 65552 = 0#8 := reg 16 (by decide) _ rfl
    have d : blobNat b 65554 2 = 0 := zero 2 65554 fun i hi => by
      interval_cases i
      · exact reg 18 (by decide) _ rfl
      · exact reg 19 (by decide) _ rfl
    have t : blobNat b 65556 2 = 0 := zero 2 65556 fun i hi => by
      interval_cases i
      · exact reg 20 (by decide) _ rfl
      · exact reg 21 (by decide) _ rfl
    rw [f, r, d, t]
    simp only [List.all_cons, List.all_nil, n1, n2, n3, n4]
    decide
  have hppu : ppuRecordOk rom.cfg b = true := by
    unfold ppuRecordOk
    have m : blobByte b 65560 = 2#8 := pix 0 (by decide) _ rfl
    have l : blobByte b 65563 = 0#8 := pix 3 (by decide) _ rfl
    have d : blobNat b 65561 2 = 0 := zero 2 65561 fun i hi => by
      interval_cases i
      · exact pix 1 (by decide) _ rfl
      · exact pix 2 (by decide) _ rfl
    dsimp only
    rw [m, l, d]
    decide
  have hglob : spuGlobalsOk rom.cfg b = true := by
    unfold spuGlobalsOk
    have q : blobNat b 65572 4 = 0 := zero 4 65572 fun i hi => by
      have := glob (4 + i) (by omega)
      rwa [← Nat.add_assoc] at this
    have x : blobNat b 65576 4 = 0 := zero 4 65576 fun i hi => by
      have := glob (8 + i) (by omega)
      rwa [← Nat.add_assoc] at this
    rw [q, x]
    simp only [List.all_cons, List.all_nil, none 65568 (glob 0 (by decide)), none 65569 (glob 1 (by decide)),
      none 65570 (glob 2 (by decide))]
    decide
  have hvoice : (List.range rom.cfg.nVoices).all (voiceRecordOk rom.cfg b) = true := by
    rw [List.all_eq_true]
    intro v hv
    have hv : v < 24 := List.mem_range.1 hv
    unfold voiceRecordOk
    rw [zero 4 (voiceOffset v + 12) fun i hi => by rw [Nat.add_assoc]; exact voice v (12 + i) hv (by omega),
      zero 2 (voiceOffset v + 16) fun i hi => by rw [Nat.add_assoc]; exact voice v (16 + i) hv (by omega),
      none _ (voice v 18 hv (by decide)), none _ (voice v 19 hv (by decide))]
    decide
  have hrom : romImageOk b rom = true := by
    unfold romImageOk
    have bank : blobByte b 65551 = 1#8 := reg 15 (by decide) _ rfl
    have same : rom.setBank { rom.bank with romBank := 1#8 } = rom := rfl
    dsimp only
    rw [bank, same]
    simp only [List.all_cons, List.all_nil, Bool.and_true, Bool.and_eq_true, List.all_eq_true, List.mem_range,
      decide_eq_true_eq]
    refine ⟨fun i hi => image (0x0000 + i) ?_, fun i hi => image (0x4000 + i) ?_⟩ <;>
    · have : i < 0x4000 := hi
      omega
  have hlen : b.length = blobSize rom.cfg := length.trans (by rw [core]; rfl)
  unfold loadState
  rw [if_pos]
  unfold blobOk
  rw [hreg, hppu, hglob, hvoice, hrom, hlen]
  decide

theorem witness_LoadRestores :
    (rom.cfg.memoryMap = MemoryMap.ref ∧ (loadState (saveState rom) rom).1 = true) ∧
    rom.Inv ∧ fitsBlob rom.cfg = true ∧ rom.spu.cores.length = 1 ∧ spuMapped rom.cfg 0xFFFF#16 = false :=
  ⟨⟨rfl, rom_blob_loads⟩, rom_inv, by decide, rfl, by decide⟩

end

end Sys2Proof.Tests
end

section
/-! PROOFS. The legal states (10_state.md): the reset state is legal, and the machine tick, phase by phase, keeps the
state legal. The values of the reset state and the layout of the flags. -/

namespace Sys2Proof.Machine

/-! ## What a tick can do -/

/-- A tick that answers runs with an image loaded; it idles, or it executes one instruction (60_exceptions.md R500). -/
theorem step_next_cases {s t : State} (h : step s = .next t) :
    s.store.romBanks ≠ 0 ∧
    ((s.idles = true ∧ t = idleTick s) ∨ (s.idles = false ∧ executePhase (readyToFetch s) = .next t)) := by
  unfold step tick at h
  split at h
  · cases h
  next hrom =>
  split at h
  · next hidle =>
    cases h
    exact ⟨hrom, .inl ⟨hidle, rfl⟩⟩
  · next hidle => exact ⟨hrom, .inr ⟨Bool.eq_false_iff.2 hidle, h⟩⟩

theorem Built.armLatch {s t : State} (arm : Bool) (h : Built s t) : Built s (armLatch arm t) :=
  .ite (fun _ => .setEiPending false nofun (.setIme _ h)) fun _ => h

/-- The execute phase always answers: what elementary updates build, then phases 4 and 5. -/
theorem executePhase_built (s : State) :
    ∃ u, executePhase s = .next (advancePeripherals u) ∧ Built s u := by
  obtain ⟨u, hu, hbuilt⟩ := exec_built (fetched s) (fetchInstr s)
  refine ⟨Machine.armLatch s.eiPending u, ?_, .armLatch _ (.trans (.setPc _ .refl) hbuilt)⟩
  unfold executePhase
  rw [hu]

/-! ## Every phase keeps the state legal -/

theorem State.Inv.advancePeripherals {s : State} (h : s.Inv) : (advancePeripherals s).Inv :=
  { (h.peripheralCycles s.cycles).spuPhase with }

theorem State.Inv.readyToFetch {s : State} (h : s.Inv) : (readyToFetch s).Inv := by
  have hwoken : ((s.setCycles 0).setHalted false).Inv := { h with }
  exact hwoken.serviceInterrupts

theorem State.Inv.idleTick {s : State} (h : s.Inv) : (idleTick s).Inv := by
  have hcharged : ((s.setCycles 0).charge s.cfg.haltIdleCycles).Inv := { h with }
  exact hcharged.advancePeripherals

theorem State.Inv.executePhase {s t : State} (h : s.Inv) (ht : executePhase s = .next t) : t.Inv := by
  obtain ⟨u, hu, hbuilt⟩ := executePhase_built s
  rw [hu] at ht
  cases ht
  exact (hbuilt.inv h).advancePeripherals

/-- Settles O13: the idle tick and the execute phase each keep the state legal. -/
theorem stepKeepsInv : Obligations.StepKeepsInv := by
  intro s t h hstep
  obtain ⟨-, ⟨-, rfl⟩ | ⟨-, hexec⟩⟩ := step_next_cases hstep
  · exact h.idleTick
  · exact h.readyToFetch.executePhase hexec

/-! ## The reset state is legal

Each component's reset values are legal in every well-formed configuration. -/

theorem Cells.within_nil {w : Nat} (n : Nat) : Cells.within ([] : Cells w) n :=
  ⟨⟨.nil, nofun⟩, nofun⟩

section
variable {cfg : Config}

theorem Store.legal_freshFor : (Store.freshFor cfg).Legal cfg where
  banks := .inl rfl
  rom := Cells.within_nil _
  vram := Cells.within_nil _
  eram := Cells.within_nil _
  wramCount := List.length_replicate
  wram := fun m hm => by rw [List.eq_of_mem_replicate hm]; exact Cells.within_nil _
  oam := Cells.within_nil _
  io := Cells.within_nil _
  ioPlain := nofun
  hram := Cells.within_nil _

theorem Timer.legal_reset (hc : cfg.Sound) : Timer.reset.Legal cfg where
  divSub := hc.divPeriod
  timaSub := one_le_foldr_max _

theorem Ppu.legal_resetFor (hc : cfg.Sound) : (Ppu.resetFor cfg).Legal cfg where
  dot := by show 0 < Config.oamScanCycles; decide
  line := fun _ => Nat.zero_le _
  lineBound := Nat.zero_le _
  disabled := fun hoff => absurd (hc.resetLcdc.symm.trans hoff) (by decide)
  fb := Cells.within_nil _

theorem Voice.legal_reset (hc : cfg.Sound) : Voice.reset.Legal cfg where
  env := Nat.zero_le _
  pos := Nat.mul_pos hc.samples hc.pitchOne
  latch := nofun

theorem SpuCore.legal_resetFor (hc : cfg.Sound) : (SpuCore.resetFor cfg).Legal cfg where
  count := List.length_replicate
  voices := fun v hv => by rw [List.eq_of_mem_replicate hv]; exact Voice.legal_reset hc
  irqAddr := hc.samples
  xferAddr := hc.samples
  sram := Cells.within_nil _
  rvbL := Cells.within_nil _
  rvbR := Cells.within_nil _
  rvbIdx := hc.reverbDelay

end

theorem wellFormed_ref : Config.ref.wellFormed = true := by decide

theorem Spu.legal_reset : State.reset.spu.Legal Config.ref where
  count := rfl
  cores := fun k hk => by rw [List.mem_singleton.1 hk]; exact SpuCore.legal_resetFor (Config.sound wellFormed_ref)
  phase := (Config.sound wellFormed_ref).stepPeriod
  latch := Cells.within_nil _

/-- Settles O12, component by component. -/
theorem invAtReset : Obligations.InvAtReset :=
  have hc := Config.sound wellFormed_ref
  { cfg := wellFormed_ref
    regs := hc.resetF
    store := Store.legal_freshFor
    timer := Timer.legal_reset hc
    ppu := Ppu.legal_resetFor hc
    spu := Spu.legal_reset
    eiLatch := nofun }

/-! ## The values of the reset state -/

/-- Settles O14: each value is what the definition of the reset state computes to. -/
theorem resetValues : Obligations.ResetValues :=
  ⟨rfl, rfl, rfl, rfl, rfl, rfl, rfl, rfl, rfl, rfl, rfl, rfl, rfl, rfl, rfl, rfl⟩

/-! ## The flags -/

/-- Settles O27 by the two laws of `withFlags`; the rest is the definition of `State.setFlags`. -/
theorem flagsInHighNibble : Obligations.FlagsInHighNibble := fun s fl =>
  ⟨Built.flagsOf_withFlags s.regs.f fl, Built.withFlags_low s.regs.f fl, rfl, rfl, rfl⟩

end Sys2Proof.Machine
end

section
/-! PROOFS. The bus (20_memory.md): the region an address has in the map of `CFG_REF` and, for ROM and the I/O file, in
every well-formed map; the register at an address of the I/O file; the OAM transfer; what a byte written reads as. -/

namespace Sys2Proof.Machine

/-! ## A bus access by its region -/

theorem busAccess_of_region {s : State} {a : Word} {p : Region} (h : region s.cfg a = p) (v : Byte) :
    busRead s a = regionRead s p ∧ busWrite s a v = regionWrite s v p := by
  subst h
  exact ⟨rfl, rfl⟩

/-- A bus access to a register of the I/O file. -/
theorem busAccess_of_ioReg {s : State} {a : Word} {o : Nat} {r : IoReg} (h : region s.cfg a = .io o)
    (hr : ioReg s.cfg o = r) (v : Byte) : busRead s a = ioRead s o r ∧ busWrite s a v = ioWrite s o v r := by
  subst hr
  exact busAccess_of_region h v

/-- A bus access to external RAM: where there is none it reads 0; a write takes effect only while it is enabled
(20_memory.md R77). -/
theorem busAccess_of_eram {s : State} {a : Word} {o : Nat} (h : region s.cfg a = .eram o) (v : Byte) :
    (s.cfg.ramBanks = 0 → busRead s a = 0#8 ∧ busWrite s a v = s) ∧
    (s.cfg.ramBanks ≠ 0 → busRead s a = s.store.eram.read (eramIndex s o)) ∧
    (s.cfg.ramBanks ≠ 0 → s.bank.ramEnable = false → busWrite s a v = s) ∧
    (s.cfg.ramBanks ≠ 0 → s.bank.ramEnable = true →
      busWrite s a v = s.setStore { s.store with eram := s.store.eram.write (eramIndex s o) v }) := by
  obtain ⟨hread, hwrite⟩ := busAccess_of_region h v
  exact ⟨fun hnone => ⟨hread.trans (if_pos hnone), hwrite.trans (if_pos (.inl hnone))⟩,
    fun hsome => hread.trans (if_neg hsome),
    fun _ hoff => hwrite.trans (if_pos (.inr hoff)),
    fun hsome hon => hwrite.trans (if_neg (by simp [hsome, hon]))⟩

/-! ## The region table of `CFG_REF` -/

theorem Range.has_and_offset {r : Range} {n : Nat} (h1 : r.first ≤ n) (h2 : n ≤ r.last) :
    r.has n = true ∧ n = r.first + (n - r.first) :=
  ⟨Range.has_iff.2 ⟨h1, h2⟩, (Nat.add_sub_of_le h1).symm⟩

/-- Where the redirect ends at or above the echo it did nothing: the echo's target lies below it. -/
theorem eq_of_unecho_ref {n k : Nat} (h : unecho MemoryMap.ref n = k) (hk : 0xE000 ≤ k) : n = k := by
  rw [unecho_ref] at h
  split at h <;> omega

section
variable {cfg : Config} (hm : cfg.memoryMap = MemoryMap.ref) {a : Word}
include hm

/-- Outside the echo, an address has the region that names it. -/
theorem region_ref_of_names {p : Region} (hecho : a.toNat < 0xE000 ∨ 0xFDFF < a.toNat)
    (hp : p.names MemoryMap.ref a.toNat) (hu : p = .unmapped → MemoryMap.ref.unmapped.has a.toNat = true) :
    region cfg a = p := by
  unfold region
  rw [hm, unecho_ref, if_neg (by omega)]
  exact regionOf_eq (by decide) hp hu

theorem region_ref_romFixed (h : a.toNat ≤ 0x3FFF) : region cfg a = .romFixed a.toNat :=
  region_ref_of_names hm (by omega) ⟨Range.has_iff.2 ⟨Nat.zero_le _, h⟩, (Nat.zero_add _).symm⟩ nofun

theorem region_ref_romSwitch (h1 : 0x4000 ≤ a.toNat) (h2 : a.toNat ≤ 0x7FFF) :
    region cfg a = .romSwitch (a.toNat - 0x4000) :=
  region_ref_of_names hm (by omega) (Range.has_and_offset h1 h2) nofun

theorem region_ref_vram (h1 : 0x8000 ≤ a.toNat) (h2 : a.toNat ≤ 0x9FFF) : region cfg a = .vram (a.toNat - 0x8000) :=
  region_ref_of_names hm (by omega) (Range.has_and_offset h1 h2) nofun

theorem region_ref_eram (h1 : 0xA000 ≤ a.toNat) (h2 : a.toNat ≤ 0xBFFF) : region cfg a = .eram (a.toNat - 0xA000) :=
  region_ref_of_names hm (by omega) (Range.has_and_offset h1 h2) nofun

theorem region_ref_wramFixed (h1 : 0xC000 ≤ a.toNat) (h2 : a.toNat ≤ 0xCFFF) :
    region cfg a = .wramFixed (a.toNat - 0xC000) :=
  region_ref_of_names hm (by omega) (Range.has_and_offset h1 h2) nofun

theorem region_ref_wramSwitch (h1 : 0xD000 ≤ a.toNat) (h2 : a.toNat ≤ 0xDFFF) :
    region cfg a = .wramSwitch (a.toNat - 0xD000) :=
  region_ref_of_names hm (by omega) (Range.has_and_offset h1 h2) nofun

theorem region_ref_oam (h1 : 0xFE00 ≤ a.toNat) (h2 : a.toNat ≤ 0xFE9F) : region cfg a = .oam (a.toNat - 0xFE00) :=
  region_ref_of_names hm (by omega) (Range.has_and_offset h1 h2) nofun

theorem region_ref_unmapped (h1 : 0xFEA0 ≤ a.toNat) (h2 : a.toNat ≤ 0xFEFF) : region cfg a = .unmapped :=
  region_ref_of_names hm (by omega) trivial fun _ => Range.has_iff.2 ⟨h1, h2⟩

theorem region_ref_io (h1 : 0xFF00 ≤ a.toNat) (h2 : a.toNat ≤ 0xFF7F) : region cfg a = .io (a.toNat - 0xFF00) :=
  region_ref_of_names hm (by omega) (Range.has_and_offset h1 h2) nofun

theorem region_ref_hram (h1 : 0xFF80 ≤ a.toNat) (h2 : a.toNat ≤ 0xFFFE) : region cfg a = .hram (a.toNat - 0xFF80) :=
  region_ref_of_names hm (by omega) (Range.has_and_offset h1 h2) nofun

theorem region_ref_ie : region cfg 0xFFFF#16 = .ie :=
  region_ref_of_names hm (.inr (by decide)) rfl nofun

/-- The two names of a mirrored byte have one region (20_memory.md R80). -/
theorem region_ref_echo (h1 : 0xE000 ≤ a.toNat) (h2 : a.toNat ≤ 0xFDFF) :
    region cfg a = region cfg (a - 0x2000#16) := by
  have hsub : (a - 0x2000#16).toNat = a.toNat - 0x2000 := by bv_omega
  unfold region
  rw [hm, unecho_ref, unecho_ref, hsub, if_pos ⟨h1, h2⟩, if_neg (by omega)]

end

/-- Settles O43: one region lemma per clause, and the definition of the access to that region. -/
theorem busRegions : Obligations.BusRegions := by
  intro s a v hm
  have access {c : Word} {p : Region} (h : region s.cfg c = p) := busAccess_of_region h v
  obtain ⟨ieRead, ieWrite⟩ := access (region_ref_ie hm)
  exact ⟨fun _ h => (access (region_ref_romFixed hm h)).1,
    fun _ h1 h2 => (access (region_ref_romSwitch hm h1 h2)).1,
    fun h1 h2 => access (region_ref_vram hm h1 h2),
    fun h1 h2 => busAccess_of_eram (region_ref_eram hm h1 h2) v,
    fun h1 h2 => access (region_ref_wramFixed hm h1 h2),
    fun h1 h2 => access (region_ref_wramSwitch hm h1 h2),
    fun h1 h2 => access (region_ref_echo hm h1 h2),
    fun h1 h2 => access (region_ref_oam hm h1 h2),
    fun h1 h2 => access (region_ref_unmapped hm h1 h2),
    fun h1 h2 => access (region_ref_hram hm h1 h2),
    ieRead.trans (BitVec.setWidth_eq_append (by decide)), ieWrite⟩

/-! ## A byte written reads back -/

/-- The regions backed by memory that takes a write, external RAM while it is there and enabled (20_memory.md R76 to
R81, R84). -/
def Region.TakesWrite (s : State) : Region → Prop
  | .vram _ | .wramFixed _ | .wramSwitch _ | .oam _ | .hram _ => True
  | .eram _ => s.cfg.ramBanks ≠ 0 ∧ s.bank.ramEnable = true
  | .romFixed _ | .romSwitch _ | .unmapped | .io _ | .ie => False

theorem regionRead_regionWrite_self {s : State} (hs : s.Inv) {p : Region} (hp : p.TakesWrite s) (v : Byte) :
    regionRead (regionWrite s v p) p = v := by
  have bank (b : Nat) (hb : b < 2) (o : Nat) : (s.store.writeWram b o v).readWram b o = v := by
    have hcount : 2 ≤ s.store.wram.length := hs.store.wramCount ▸ (Config.sound hs.cfg).wramBanks
    exact Store.readWram_writeWram_self (by omega) (fun m hm => (hs.store.wram m hm).1) o v
  cases p
  case vram o => exact Memory.read_write_self hs.store.vram.1 o v
  case wramFixed o => exact bank 0 (by decide) o
  case wramSwitch o => exact bank 1 (by decide) o
  case oam o => exact Memory.read_write_self hs.store.oam.1 o v
  case hram o => exact Memory.read_write_self hs.store.hram.1 o v
  case eram o =>
    obtain ⟨h0, hon⟩ := hp
    unfold regionWrite
    dsimp only
    rw [if_neg (by simp [h0, hon])]
    exact (if_neg h0).trans (Memory.read_write_self hs.store.eram.1 _ v)
  all_goals exact hp.elim

/-- A byte written to such a region reads back under every address of the place. -/
theorem busRead_busWrite_of_takesWrite {s : State} (hs : s.Inv) {a b : Word} (hab : region s.cfg b = region s.cfg a)
    (ha : (region s.cfg a).TakesWrite s) (v : Byte) : busRead (busWrite s a v) b = v := by
  calc busRead (busWrite s a v) b
      = regionRead (busWrite s a v) (region s.cfg a) := by unfold busRead; rw [busWrite_cfg, hab]
    _ = v := regionRead_regionWrite_self hs ha v

/-- Video, work, sprite and high RAM of `CFG_REF` take a write, the echo too, and so does enabled external RAM. -/
theorem takesWrite_region_ref {s : State} (hm : s.cfg.memoryMap = MemoryMap.ref) {a : Word}
    (ha : (0x8000 ≤ a.toNat ∧ a.toNat ≤ 0x9FFF) ∨ (0xC000 ≤ a.toNat ∧ a.toNat ≤ 0xFE9F) ∨
      (0xFF80 ≤ a.toNat ∧ a.toNat ≤ 0xFFFE) ∨
      (0xA000 ≤ a.toNat ∧ a.toNat ≤ 0xBFFF ∧ s.cfg.ramBanks ≠ 0 ∧ s.bank.ramEnable = true)) :
    (region s.cfg a).TakesWrite s := by
  have workRam {c : Word} (h1 : 0xC000 ≤ c.toNat) (h2 : c.toNat ≤ 0xDFFF) : (region s.cfg c).TakesWrite s := by
    rcases Nat.lt_or_ge c.toNat 0xD000 with h | h
    · rw [region_ref_wramFixed hm h1 (by omega)]; trivial
    · rw [region_ref_wramSwitch hm h h2]; trivial
  rcases ha with ⟨h1, h2⟩ | ⟨h1, h2⟩ | ⟨h1, h2⟩ | ⟨h1, h2, h0, hon⟩
  · rw [region_ref_vram hm h1 h2]; trivial
  · rcases Nat.lt_or_ge a.toNat 0xE000 with h | h
    · exact workRam h1 (by omega)
    · rcases Nat.lt_or_ge a.toNat 0xFE00 with h' | h'
      · rw [region_ref_echo hm h (by omega)]
        exact workRam (by bv_omega) (by bv_omega)
      · rw [region_ref_oam hm h' h2]; trivial
  · rw [region_ref_hram hm h1 h2]; trivial
  · rw [region_ref_eram hm h1 h2]; exact ⟨h0, hon⟩

/-- Settles O44: the two names of a byte have one region, which reads back what it takes; the reach of a write is
`busRead_busWrite_ne`. -/
theorem ramReadsBack : Obligations.RamReadsBack := by
  refine ⟨fun s a b v hs hm ha hb => ?_, fun s a b v h => busRead_busWrite_ne s v h⟩
  have hab : region s.cfg b = region s.cfg a := by
    rcases hb with rfl | ⟨h1, h2, rfl⟩ | ⟨h1, h2, rfl⟩
    · rfl
    · exact (region_ref_echo hm h1 h2).symm
    · exact region_ref_echo hm h1 h2
  exact busRead_busWrite_of_takesWrite hs hab (takesWrite_region_ref hm ha) v

/-! ## The OAM transfer -/

/-- The source address of byte `i` of a transfer from page `v` (20_memory.md R99). -/
theorem dmaSource_eq (v : Byte) (i : Nat) :
    (v ++ 0#8) + BitVec.ofNat 16 i = BitVec.ofNat 16 (v.toNat * 256 + i) := by
  have happend : v ++ 0#8 = BitVec.ofNat 16 (v.toNat * 256) := by
    have htoNat : (v ++ 0#8).toNat = v.toNat <<< 8 ||| 0 := BitVec.toNat_append v 0#8
    apply BitVec.eq_of_toNat_eq
    rw [htoNat, BitVec.toNat_ofNat, Nat.or_zero, Nat.shiftLeft_eq]
    exact (Nat.mod_eq_of_lt (by omega)).symm
  rw [happend, ← BitVec.ofNat_add]

/-- A source byte in the sprite table is the one at its own destination: that page is 0xFE. -/
theorem dmaSource_oam {cfg : Config} (hm : cfg.memoryMap = MemoryMap.ref) {v : Byte} {i o : Nat} (hi : i < 160)
    (h : region cfg (BitVec.ofNat 16 (v.toNat * 256 + i)) = .oam o) : o = i := by
  have hnames := region_names cfg (BitVec.ofNat 16 (v.toNat * 256 + i))
  rw [h, hm, BitVec.toNat_ofNat, Nat.mod_eq_of_lt (by omega)] at hnames
  obtain ⟨hrange, hoffset⟩ := hnames
  obtain ⟨hfirst, hlast⟩ := Range.has_iff.1 hrange
  have hsource := eq_of_unecho_ref hoffset (Nat.le_add_right_of_le (by decide))
  rw [hoffset] at hlast
  simp only [MemoryMap.ref] at hsource hlast
  omega

/-- A source byte reads as before while its own destination is unchanged. -/
theorem busRead_dmaSource {s : State} (hm : s.cfg.memoryMap = MemoryMap.ref) (v : Byte) {i : Nat} (hi : i < 160)
    {m : Memory} (hkept : m.read i = s.store.oam.read i) :
    busRead (s.setStore { s.store with oam := m }) (BitVec.ofNat 16 (v.toNat * 256 + i)) =
      busRead s (BitVec.ofNat 16 (v.toNat * 256 + i)) := by
  by_cases h : ∃ o, region s.cfg (BitVec.ofNat 16 (v.toNat * 256 + i)) = .oam o
  · obtain ⟨o, ho⟩ := h
    rw [dmaSource_oam hm hi ho] at ho
    unfold busRead
    rw [State.setStore_cfg, ho]
    exact hkept
  · exact busRead_setOam s m fun o ho => h ⟨o, ho⟩

/-- The first `n` bytes of a transfer: the entries below `n` hold their source bytes, the others are kept. -/
theorem dmaFold_copies {s : State} (hm : s.cfg.memoryMap = MemoryMap.ref) (hwf : Memory.wf s.store.oam) (v : Byte)
    {n : Nat} (hn : n ≤ 160) :
    ∃ m : Memory, (List.range n).foldl (dmaByte v) s = s.setStore { s.store with oam := m } ∧ m.wf ∧
      (∀ i, i < n → m.read i = busRead s (BitVec.ofNat 16 (v.toNat * 256 + i))) ∧
      ∀ i, n ≤ i → m.read i = s.store.oam.read i := by
  induction n with
  | zero => exact ⟨s.store.oam, rfl, hwf, nofun, fun _ _ => rfl⟩
  | succ n ih =>
    obtain ⟨m, hfold, hm', hcopied, hkept⟩ := ih (by omega)
    refine ⟨m.write n (busRead s (BitVec.ofNat 16 (v.toNat * 256 + n))), ?_, Memory.wf_write hm' _ _,
      fun i hi => ?_, fun i hi => ?_⟩
    · rw [List.range_succ, List.foldl_append, hfold, ← busRead_dmaSource hm v (by omega) (hkept n le_rfl),
        ← dmaSource_eq]
      rfl
    · by_cases hin : i = n
      · subst hin
        exact Memory.read_write_self hm' _ _
      · exact (Memory.read_write_ne m hin _).trans (hcopied i (by omega))
    · exact (Memory.read_write_ne m (by omega) _).trans (hkept i (by omega))

/-- Settles O48: the transfer is its first 160 bytes, from the state that holds the byte stored. -/
theorem oamTransferCopies : Obligations.OamTransfer := by
  intro s v hs hm s0
  have hregion : region s.cfg 0xFF46#16 = .io 0x46 := region_ref_io hm (by decide) (by decide)
  have hwrite : busWrite s 0xFF46#16 v = oamTransfer v s0 := (busAccess_of_ioReg hregion rfl v).2
  obtain ⟨m, hfold, -, hcopied, -⟩ := dmaFold_copies (s := s0) hm hs.store.oam.1 v le_rfl
  have htransfer : oamTransfer v s0 = s0.setStore { s0.store with oam := m } := hfold
  rw [hwrite, htransfer]
  refine ⟨hcopied, rfl, ?_⟩
  have hread := busAccess_of_ioReg (s := s0.setStore { s0.store with oam := m }) hregion (r := .dma) rfl v
  exact hread.1.trans (Memory.read_write_self hs.store.io.1 _ v)

/-! ## The registers of the components -/

/-- A bus access to a register of the I/O file of `CFG_REF`. -/
theorem busAccess_ref_ioReg {s : State} (hm : s.cfg.memoryMap = MemoryMap.ref) {a : Word} (o : Nat) (r : IoReg)
    (ha : a.toNat = 0xFF00 + o) (ho : o < 0x80) (hr : ioReg s.cfg o = r) (v : Byte) :
    busRead s a = ioRead s o r ∧ busWrite s a v = ioWrite s o v r := by
  have hregion := region_ref_io hm (a := a) (by omega) (by omega)
  rw [ha, Nat.add_sub_cancel_left] at hregion
  exact busAccess_of_ioReg hregion hr v

/-- Settles O45: one register per clause, at its offset in the I/O file. -/
theorem componentRegisters : Obligations.ComponentRegisters := by
  intro s v hm
  have reg {a : Word} (o : Nat) (r : IoReg) (ha : a.toNat = 0xFF00 + o) (ho : o < 0x80) (hr : ioReg s.cfg o = r) :=
    busAccess_ref_ioReg hm o r ha ho hr v
  obtain ⟨tacRead, tacWrite⟩ := reg (a := 0xFF07#16) 0x07 .tac rfl (by decide) rfl
  obtain ⟨ifRead, ifWrite⟩ := reg (a := 0xFF0F#16) 0x0F .intFlag rfl (by decide) rfl
  obtain ⟨statRead, statWrite⟩ := reg (a := 0xFF41#16) 0x41 .stat rfl (by decide) rfl
  unfold ioWrite at statWrite
  dsimp only at statWrite
  rw [BitVec.setWidth_ushiftRight_eq_extractLsb] at statWrite
  exact ⟨reg 0x04 .div rfl (by decide) rfl, reg 0x05 .tima rfl (by decide) rfl, reg 0x06 .tma rfl (by decide) rfl,
    ⟨tacRead.trans (BitVec.setWidth_eq_append (by decide)), tacWrite⟩,
    ⟨ifRead.trans (BitVec.setWidth_eq_append (by decide)), ifWrite⟩,
    reg 0x40 .lcdc rfl (by decide) rfl, ⟨statRead, statWrite⟩,
    reg 0x42 .scy rfl (by decide) rfl, reg 0x43 .scx rfl (by decide) rfl, reg 0x44 .ly rfl (by decide) rfl,
    reg 0x45 .lyc rfl (by decide) rfl, reg 0x47 .bgp rfl (by decide) rfl, reg 0x48 .obp0 rfl (by decide) rfl,
    reg 0x49 .obp1 rfl (by decide) rfl, reg 0x4A .wy rfl (by decide) rfl, reg 0x4B .wx rfl (by decide) rfl⟩

/-! ## ROM and the I/O file in a well-formed map -/

section
variable {m : MemoryMap} (hm : m.wellFormed = true)
include hm

/-- What the checks of a map say of the two ROM regions, the echo and the I/O file. -/
theorem MemoryMap.apart_of_wellFormed :
    m.romFixed.apart m.romSwitch = true ∧ m.romFixed.apart m.echo = true ∧ m.romSwitch.apart m.echo = true ∧
      m.echo.apart m.io = true := by
  unfold MemoryMap.wellFormed at hm
  simp only [Bool.and_eq_true, decide_eq_true_eq] at hm
  obtain ⟨⟨⟨⟨⟨hapart, -⟩, -⟩, -⟩, -⟩, -⟩ := hm
  simp only [MemoryMap.ranges, List.pairwise_cons, List.forall_mem_cons] at hapart
  obtain ⟨⟨h1, -, -, -, -, h2, -⟩, ⟨-, -, -, -, h3, -⟩, -, -, -, -, ⟨-, -, h4, -⟩, -⟩ := hapart
  exact ⟨h1, h2, h3, h4⟩

theorem MemoryMap.romBacked_of_wellFormed :
    m.romFixed.last ≤ 0x7FFF ∧ m.romSwitch.last ≤ 0x7FFF ∧ m.romFixed.size + m.romSwitch.size = 0x8000 := by
  unfold MemoryMap.wellFormed MemoryMap.romBacked at hm
  simp only [Bool.and_eq_true, decide_eq_true_eq] at hm
  obtain ⟨⟨⟨-, ⟨hfixed, hswitch⟩, hsize⟩, -⟩, -⟩ := hm
  exact ⟨hfixed, hswitch, hsize⟩

/-- The two ROM regions have every address below 0x8000: none of them reaches beyond, they share no address, and they
have 0x8000 addresses together (20_memory.md R72, R75). -/
theorem MemoryMap.romFixed_or_romSwitch_has {n : Nat} (hn : n ≤ 0x7FFF) :
    m.romFixed.has n = true ∨ m.romSwitch.has n = true := by
  obtain ⟨hapart, -⟩ := MemoryMap.apart_of_wellFormed hm
  obtain ⟨hfixed, hswitch, hsize⟩ := MemoryMap.romBacked_of_wellFormed hm
  rw [Range.has_iff, Range.has_iff]
  simp only [Range.apart, Range.size, Bool.or_eq_true, decide_eq_true_eq] at hapart hsize
  omega

end

theorem Range.apart_comm (r q : Range) : r.apart q = q.apart r := Bool.or_comm _ _

theorem unecho_of_not_has {m : MemoryMap} {n : Nat} (h : m.echo.has n = false) : unecho m n = n := by
  unfold unecho
  rw [if_neg (by simp [h])]

section
variable {cfg : Config} (hm : cfg.memoryMap.wellFormed = true) {a : Word}
include hm

/-- An address below 0x8000 is in one of the two ROM regions. -/
theorem region_rom (ha : a.toNat ≤ 0x7FFF) : ∃ o, region cfg a = .romFixed o ∨ region cfg a = .romSwitch o := by
  obtain ⟨-, hfixed, hswitch, -⟩ := MemoryMap.apart_of_wellFormed hm
  rcases MemoryMap.romFixed_or_romSwitch_has hm ha with h | h
  · have hecho := unecho_of_not_has (Range.has_of_apart (Range.apart_comm _ _ ▸ hfixed) h)
    exact ⟨_, .inl (region_eq hm (by rw [hecho]; exact ⟨h, Range.has_offset h⟩) nofun)⟩
  · have hecho := unecho_of_not_has (Range.has_of_apart (Range.apart_comm _ _ ▸ hswitch) h)
    exact ⟨_, .inr (region_eq hm (by rw [hecho]; exact ⟨h, Range.has_offset h⟩) nofun)⟩

/-- An address in the I/O range is in the I/O file, at its offset. -/
theorem region_io (ha : cfg.memoryMap.io.has a.toNat = true) :
    region cfg a = .io (a.toNat - cfg.memoryMap.io.first) := by
  obtain ⟨-, -, -, hio⟩ := MemoryMap.apart_of_wellFormed hm
  have hecho := unecho_of_not_has (Range.has_of_apart hio ha)
  exact region_eq hm (by rw [hecho]; exact ⟨ha, Range.has_offset ha⟩) nofun

end

/-- Settles O42: an address below 0x8000 is in a ROM region, which drops the write. -/
theorem romWritesDiscarded : Obligations.RomWritesDiscarded := by
  intro s a b v hc ha
  have hkept : busWrite s a v = s := by
    obtain ⟨o, h | h⟩ := region_rom (Config.sound hc).map ha <;> exact (busAccess_of_region h v).2
  exact ⟨hkept, by rw [hkept]⟩

/-! ## The open addresses of the I/O file -/

/-- The offsets of the I/O file that are a component's register or `DMA`. -/
def viewOffsets : List Nat :=
  [0x04, 0x05, 0x06, 0x07, 0x0F, 0x40, 0x41, 0x42, 0x43, 0x44, 0x45, 0x46, 0x47, 0x48, 0x49, 0x4A, 0x4B]

/-- At another offset the register is the one of the `OPEN` address that stands there, or else a plain cell
(20_memory.md R86, R87). -/
theorem ioReg_of_notMem_viewOffsets {cfg : Config} {a : Word} (ha : cfg.memoryMap.io.has a.toNat = true)
    (hview : a.toNat - cfg.memoryMap.io.first ∉ viewOffsets) :
    ioReg cfg (a.toNat - cfg.memoryMap.io.first) =
      if a = cfg.ioRomb then .romb
      else if a = cfg.ioRamb then .ramb
      else if a = cfg.ioRamg then .ramg
      else if (cfg.spuRow (a.toNat - cfg.memoryMap.io.first)).isSome then .spu
      else .plain := by
  have haddr := Range.has_offset ha
  simp only [viewOffsets, List.mem_cons, List.not_mem_nil, or_false, not_or] at hview
  simp only [ioReg, hview, if_false, ← haddr, BitVec.toNat_inj]

/-- An address the host may choose is in the I/O file, at no component's offset (20_memory.md R106). -/
theorem notMem_viewOffsets_of_free {cfg : Config} {a : Word} (h : cfg.freeIoAddress a = true) :
    cfg.memoryMap.io.has a.toNat = true ∧ a.toNat - cfg.memoryMap.io.first ∉ viewOffsets := by
  have hfixed : ∀ o ∈ viewOffsets, o ∈ Config.fixedIoOffsets := by decide
  unfold Config.freeIoAddress at h
  simp only [Bool.and_eq_true, Bool.not_eq_true', List.contains_eq_mem, decide_eq_false_iff_not] at h
  exact ⟨h.1, fun hmem => h.2 (hfixed _ hmem)⟩

section
variable {cfg : Config} (hc : cfg.Sound)
include hc

/-- No two of the open addresses are one (20_memory.md R106). -/
theorem openAddresses_distinct :
    cfg.ioRamb ≠ cfg.ioRomb ∧ cfg.ioRamg ≠ cfg.ioRomb ∧ cfg.ioRamg ≠ cfg.ioRamb ∧
      (∀ r ∈ cfg.spuIoMap, r.addr ≠ cfg.ioRomb ∧ r.addr ≠ cfg.ioRamb ∧ r.addr ≠ cfg.ioRamg) ∧
      (cfg.spuIoMap.map SpuIoRow.addr).Nodup := by
  have hdistinct := hc.openDistinct
  simp only [Config.openAddresses, List.cons_append, List.nil_append, List.nodup_cons, List.mem_cons, List.mem_map,
    not_or, not_exists, not_and] at hdistinct
  obtain ⟨⟨hrombRamb, hrombRamg, hromb⟩, ⟨hrambRamg, hramb⟩, hramg, hrows⟩ := hdistinct
  exact ⟨Ne.symm hrombRamb, Ne.symm hrombRamg, Ne.symm hrambRamg,
    fun r hr => ⟨hromb r hr, hramb r hr, hramg r hr⟩, hrows⟩

theorem free_of_mem_spuIoMap {r : SpuIoRow} (hr : r ∈ cfg.spuIoMap) : cfg.freeIoAddress r.addr = true :=
  hc.openFree r.addr (List.mem_append_right _ (List.mem_map_of_mem hr))

/-- A row of `SPU_IO_MAP` is the one looked up at its address. -/
theorem spuRow_of_mem {r : SpuIoRow} (hr : r ∈ cfg.spuIoMap) :
    cfg.spuRow (r.addr.toNat - cfg.memoryMap.io.first) = some r := by
  obtain ⟨-, -, -, -, hrows⟩ := openAddresses_distinct hc
  have haddr := Range.has_offset (notMem_viewOffsets_of_free (free_of_mem_spuIoMap hc hr)).1
  unfold Config.spuRow
  rw [← haddr]
  cases hfind : cfg.spuIoMap.find? fun q => decide (q.addr.toNat = r.addr.toNat) with
  | none => exact absurd (List.find?_eq_none.1 hfind r hr) (by simp)
  | some q =>
    have hq := List.find?_some hfind
    rw [decide_eq_true_eq, BitVec.toNat_inj] at hq
    rw [List.inj_on_of_nodup_map hrows (List.mem_of_find?_eq_some hfind) hr hq]

end

/-- Settles O46: the look-up at each bank register's address, and at an address no row has. -/
theorem bankRegistersAndPlainCells : Obligations.BankRegistersAndPlainCells := by
  intro s v hc
  have hsound := Config.sound hc
  obtain ⟨hrambRomb, hramgRomb, hramgRamb, -, -⟩ := openAddresses_distinct hsound
  have access {a : Word} {r : IoReg} (ha : s.cfg.memoryMap.io.has a.toNat = true)
      (hr : ioReg s.cfg (a.toNat - s.cfg.memoryMap.io.first) = r) :=
    busAccess_of_ioReg (region_io hsound.map ha) hr v
  have free {a : Word} (ha : a ∈ s.cfg.openAddresses) := notMem_viewOffsets_of_free (hsound.openFree a ha)
  obtain ⟨hromb, hrombView⟩ := free (a := s.cfg.ioRomb) (by simp [Config.openAddresses])
  obtain ⟨hramb, hrambView⟩ := free (a := s.cfg.ioRamb) (by simp [Config.openAddresses])
  obtain ⟨hramg, hramgView⟩ := free (a := s.cfg.ioRamg) (by simp [Config.openAddresses])
  refine ⟨?romb, ?ramb, ?ramg, ?plain⟩
  case romb => exact access (r := .romb) hromb (by rw [ioReg_of_notMem_viewOffsets hromb hrombView, if_pos rfl])
  case ramb =>
    obtain ⟨hread, hwrite⟩ := access (r := .ramb) hramb (by
      rw [ioReg_of_notMem_viewOffsets hramb hrambView, if_neg hrambRomb, if_pos rfl])
    exact ⟨hread.trans (BitVec.setWidth_eq_append (by decide)), hwrite⟩
  case ramg =>
    obtain ⟨hread, hwrite⟩ := access (r := .ramg) hramg (by
      rw [ioReg_of_notMem_viewOffsets hramg hramgView, if_neg hramgRomb, if_neg hramgRamb, if_pos rfl])
    exact ⟨hread.trans (BitVec.setWidth_eq_append (by decide)), hwrite⟩
  case plain =>
    intro a hfirst hlast o hview hneRomb hneRamb hneRamg hunmapped
    have ha : s.cfg.memoryMap.io.has a.toNat = true := Range.has_iff.2 ⟨hfirst, hlast⟩
    have hrow : s.cfg.spuRow o = none := by
      refine List.find?_eq_none.2 fun r hr => ?_
      rw [decide_eq_true_eq, ← Range.has_offset ha, BitVec.toNat_inj]
      exact hunmapped r hr
    refine access (r := .plain) ha ?_
    rw [ioReg_of_notMem_viewOffsets ha hview, if_neg hneRomb, if_neg hneRamb, if_neg hneRamg, hrow]
    rfl

/-! ## The mapped addresses of the synthesizer -/

/-- A write at a row without an operation keeps the byte only. -/
theorem spuBusWrite_of_no_op {s : State} {o : Nat} {r : SpuIoRow} (hrow : s.cfg.spuRow o = some r) (hop : r.op = none)
    (v : Byte) :
    spuBusWrite s o v = (s.setSpu { s.spu with latch := s.spu.latch.write o v }).nextFree := by
  unfold spuBusWrite
  simp only [hrow, hop]

/-- A write at a row with an operation applies it to the row's core after keeping the byte. -/
theorem spuBusWrite_of_op {s : State} {o : Nat} {r : SpuIoRow} {op : SpuOpKind} (hrow : s.cfg.spuRow o = some r)
    (hop : r.op = some op) (v : Byte) :
    (spuBusWrite s o v).spu.cores = s.spu.cores.modify r.core fun k =>
      k.port s.cfg (SpuOpKind.apply (assemble (s.spu.latch.write o v) r.voice)
        (assemble (s.spu.latch.write o v) r.arg) op) := by
  unfold spuBusWrite
  simp only [hrow, hop]
  rfl

theorem spuMapped_of_empty_map {cfg : Config} (h : cfg.spuIoMap = []) (a : Word) : spuMapped cfg a = false := by
  unfold spuMapped
  split
  · next o _ =>
    have hrow : cfg.spuRow o = none := by
      unfold Config.spuRow
      rw [h]
      rfl
    refine decide_eq_false fun hspu => ?_
    have hsome := ioReg_at cfg o
    rw [hspu, IoReg.at, hrow] at hsome
    cases hsome
  · rfl

/-- Settles O47: the row looked up at a mapped address is its own; with an empty map no address is mapped. -/
theorem mappedSpuWrites : Obligations.MappedSpuWrites := by
  refine ⟨fun s v r hc hr => ?_, fun s a v h => busWrite_spu s a v (spuMapped_of_empty_map h a), rfl⟩
  intro o latch u
  have hsound := Config.sound hc
  obtain ⟨-, -, -, hbank, -⟩ := openAddresses_distinct hsound
  obtain ⟨hneRomb, hneRamb, hneRamg⟩ := hbank r hr
  obtain ⟨ha, hview⟩ := notMem_viewOffsets_of_free (free_of_mem_spuIoMap hsound hr)
  have hrow : s.cfg.spuRow o = some r := spuRow_of_mem hsound hr
  have hreg : ioReg s.cfg o = .spu := by
    rw [ioReg_of_notMem_viewOffsets ha hview, if_neg hneRomb, if_neg hneRamb, if_neg hneRamg, hrow]
    rfl
  obtain ⟨hread, hwrite⟩ := busAccess_of_ioReg (region_io hsound.map ha) hreg v
  have hu : u = spuBusWrite s o v := hwrite
  refine ⟨hread, ?_, fun hop => ?_, fun op hop j => ?_⟩
  · obtain ⟨cores, k, h⟩ := spuBusWrite_eq s o v
    rw [hu, h]
  · rw [hu, spuBusWrite_of_no_op hrow hop]
    rfl
  · rw [hu, spuBusWrite_of_op hrow hop, List.getElem?_modify]
    by_cases hj : r.core = j
    · simp [hj, latch]
    · simp [hj, Ne.symm hj]

end Sys2Proof.Machine
end

section
/-! PROOFS. The decoder against the encoder (30_encoding.md). Each indexed form of `Instr.byForm` has one encoding
lemma: the decoder reads the form from the opcode its indices make. What is decoded from enough bytes then follows from
the form's length alone. -/

namespace Sys2Proof

open Machine

/-! ## Encodings -/

section
variable {op b1 b2 : Byte} {len : Nat} {i : Instr}

/-- The encoder need not be looked at: it answers the bytes the decoder read. -/
theorem Machine.Encodes.of_decode (hd : decodeBytes op b1 b2 = i) (hl : opcodeLength op = len) :
    Encodes op len b1 b2 i := by
  subst hd hl
  exact ⟨rfl, rfl, (encode_decodeBytes op b1 b2).1⟩

/-- The same three facts, the encoder first, so that it determines the opcode. -/
theorem Machine.Encodes.of_encode (he : encode i = [op, b1, b2].take len) (hl : opcodeLength op = len)
    (hd : decodeBytes op b1 b2 = i) : Encodes op len b1 b2 i := ⟨hd, hl, he⟩

theorem Machine.Encodes.of_decodeCb {sub : Byte} (hd : decodeCb sub = i) : Encodes 0xCB#8 2 sub b2 i :=
  .of_decode hd rfl

end

section
variable (b1 b2 : Byte)

/-! ### Loads -/

theorem encodes_ldRegReg (y z : Reg8) : Encodes (opcode 0x40 y.index z.index) 1 b1 b2 (Instr.ldRegReg y z) := by
  cases y <;> cases z <;> exact .of_decode rfl rfl

theorem encodes_ldRegMem (y : Reg8) : Encodes (opcode 0x46 y.index 0) 1 b1 b2 (Instr.ldRegMem y) := by
  cases y <;> exact .of_decode rfl rfl

theorem encodes_ldMemReg (z : Reg8) : Encodes (opcode 0x70 0 z.index) 1 b1 b2 (Instr.ldMemReg z) := by
  cases z <;> exact .of_decode rfl rfl

theorem encodes_ldRegImm (y : Reg8) : Encodes (opcode 0x06 y.index 0) 2 b1 b2 (Instr.ldRegImm y b1) := by
  cases y <;> exact .of_decode rfl rfl

theorem encodes_ldPairImm (p : Pair) :
    Encodes (opcode 0x01 (2 * p.index) 0) 3 b1 b2 (Instr.ldPairImm p (b2 ++ b1)) := by
  cases p <;> exact .of_decode rfl rfl

theorem encodes_push (p : StackPair) : Encodes (opcode 0xC5 (2 * p.index) 0) 1 b1 b2 (Instr.push p) := by
  cases p <;> exact .of_decode rfl rfl

theorem encodes_pop (p : StackPair) : Encodes (opcode 0xC1 (2 * p.index) 0) 1 b1 b2 (Instr.pop p) := by
  cases p <;> exact .of_decode rfl rfl

/-! ### Arithmetic -/

theorem aluEncoded (op : AluOp) : AluEncoded op := by
  refine fun b1 b2 => ⟨fun z => ?_, ?_, ?_⟩
  · cases op <;> cases z <;> exact .of_decode rfl rfl
  · cases op <;> exact .of_decode rfl rfl
  · cases op <;> exact .of_decode rfl rfl

theorem encodes_aluReg (op : AluOp) (z : Reg8) :
    Encodes (opcode 0x80 op.index z.index) 1 b1 b2 (Instr.aluReg op z) := (aluEncoded op b1 b2).1 z

theorem encodes_aluMem (op : AluOp) : Encodes (opcode 0x86 op.index 0) 1 b1 b2 (Instr.aluMem op) :=
  (aluEncoded op b1 b2).2.1

theorem encodes_aluImm (op : AluOp) : Encodes (opcode 0xC6 op.index 0) 2 b1 b2 (Instr.aluImm op b1) :=
  (aluEncoded op b1 b2).2.2

theorem encodes_incReg (y : Reg8) : Encodes (opcode 0x04 y.index 0) 1 b1 b2 (Instr.incReg y) := by
  cases y <;> exact .of_decode rfl rfl

theorem encodes_decReg (y : Reg8) : Encodes (opcode 0x05 y.index 0) 1 b1 b2 (Instr.decReg y) := by
  cases y <;> exact .of_decode rfl rfl

theorem encodes_addHl (p : Pair) : Encodes (opcode 0x09 (2 * p.index) 0) 1 b1 b2 (Instr.addHl p) := by
  cases p <;> exact .of_decode rfl rfl

theorem encodes_incPair (p : Pair) : Encodes (opcode 0x03 (2 * p.index) 0) 1 b1 b2 (Instr.incPair p) := by
  cases p <;> exact .of_decode rfl rfl

theorem encodes_decPair (p : Pair) : Encodes (opcode 0x0B (2 * p.index) 0) 1 b1 b2 (Instr.decPair p) := by
  cases p <;> exact .of_decode rfl rfl

/-! ### The CB page -/

theorem encodes_rotReg (op : RotOp) (z : Reg8) :
    Encodes 0xCB#8 2 (opcode 0x00 op.index z.index) b2 (Instr.rotReg op z) :=
  .of_decodeCb (by cases op <;> cases z <;> rfl)

theorem encodes_rotMem (op : RotOp) : Encodes 0xCB#8 2 (opcode 0x06 op.index 0) b2 (Instr.rotMem op) :=
  .of_decodeCb (by cases op <;> rfl)

theorem encodes_bitReg (y : Index3) (z : Reg8) :
    Encodes 0xCB#8 2 (opcode 0x40 y.toNat z.index) b2 (Instr.bitReg y z) :=
  .of_decodeCb (by cases y <;> cases z <;> rfl)

theorem encodes_bitMem (y : Index3) : Encodes 0xCB#8 2 (opcode 0x46 y.toNat 0) b2 (Instr.bitMem y) :=
  .of_decodeCb (by cases y <;> rfl)

theorem encodes_resReg (y : Index3) (z : Reg8) :
    Encodes 0xCB#8 2 (opcode 0x80 y.toNat z.index) b2 (Instr.resReg y z) :=
  .of_decodeCb (by cases y <;> cases z <;> rfl)

theorem encodes_resMem (y : Index3) : Encodes 0xCB#8 2 (opcode 0x86 y.toNat 0) b2 (Instr.resMem y) :=
  .of_decodeCb (by cases y <;> rfl)

theorem encodes_setReg (y : Index3) (z : Reg8) :
    Encodes 0xCB#8 2 (opcode 0xC0 y.toNat z.index) b2 (Instr.setReg y z) :=
  .of_decodeCb (by cases y <;> cases z <;> rfl)

theorem encodes_setMem (y : Index3) : Encodes 0xCB#8 2 (opcode 0xC6 y.toNat 0) b2 (Instr.setMem y) :=
  .of_decodeCb (by cases y <;> rfl)

/-! ### Control -/

theorem encodes_jpCond (cc : Cond) : Encodes (opcode 0xC2 cc.index 0) 3 b1 b2 (Instr.jpCond cc (b2 ++ b1)) := by
  cases cc <;> exact .of_decode rfl rfl

theorem encodes_jrCond (cc : Cond) : Encodes (opcode 0x20 cc.index 0) 2 b1 b2 (Instr.jrCond cc b1) := by
  cases cc <;> exact .of_decode rfl rfl

theorem encodes_callCond (cc : Cond) : Encodes (opcode 0xC4 cc.index 0) 3 b1 b2 (Instr.callCond cc (b2 ++ b1)) := by
  cases cc <;> exact .of_decode rfl rfl

theorem encodes_retCond (cc : Cond) : Encodes (opcode 0xC0 cc.index 0) 1 b1 b2 (Instr.retCond cc) := by
  cases cc <;> exact .of_decode rfl rfl

theorem encodes_rst (y : Index3) : Encodes (opcode 0xC7 y.toNat 0) 1 b1 b2 (Instr.rst y) := by
  cases y <;> exact .of_decode rfl rfl

/-- The twelve bytes the table leaves out are instructions of one byte. -/
theorem encodes_unknown {op : Byte} (h : op ∈ unknownOpcodes) : Encodes op 1 b1 b2 (.unknown op) := by
  unfold unknownOpcodes at h
  fin_cases h <;> exact .of_decode rfl rfl

end

theorem wellFormed_unknown (op : Byte) : (Instr.unknown op).wellFormed = true ↔ op ∈ unknownOpcodes :=
  List.contains_iff_mem

/-- No other byte is an unknown opcode: what the decoder reads is well formed. -/
theorem decodeBytes_eq_unknown (op b1 b2 : Byte) : decodeBytes op b1 b2 = .unknown op ↔ op ∈ unknownOpcodes := by
  constructor
  · intro h
    have hwf := (encode_decodeBytes op b1 b2).2
    rw [h] at hwf
    exact (wellFormed_unknown op).1 hwf
  · exact fun h => (encodes_unknown b1 b2 h).1

/-! ## Decoding an encoding -/

theorem decode_encode_one {op : Byte} {i : Instr} (h : ∀ b1 b2, Encodes op 1 b1 b2 i) (rest : List Byte) :
    decode (encode i ++ rest) = .ok (i, rest) := by
  obtain ⟨hd, hl, he⟩ := h (rest.getD 0 0#8) (rest.getD 1 0#8)
  rw [he, ← hd]
  exact decode_one rest hl

theorem decode_encode_two {op b1 : Byte} {i : Instr} (h : ∀ b2, Encodes op 2 b1 b2 i) (rest : List Byte) :
    decode (encode i ++ rest) = .ok (i, rest) := by
  obtain ⟨hd, hl, he⟩ := h (rest.getD 0 0#8)
  rw [he, ← hd]
  exact decode_two rest hl

/-- An operand word is the append of the two bytes that encode it. -/
theorem decode_encode_word {op : Byte} (f : Word → Instr) (h : ∀ b1 b2, Encodes op 3 b1 b2 (f (b2 ++ b1))) (w : Word)
    (rest : List Byte) : decode (encode (f w) ++ rest) = .ok (f w, rest) := by
  obtain ⟨hd, hl, he⟩ := h (w.setWidth 8) ((w >>> 8).setWidth 8)
  rw [append_wordBytes] at hd he
  rw [he, ← hd]
  exact decode_three rest hl

/-- Settles O2: each form by its encoding, the other instructions by the byte the encoder lists. -/
theorem decodeInvertsEncode : Obligations.DecodeInvertsEncode := by
  intro i rest hwf
  cases i using Instr.byForm with
  | ldRegReg y z => exact decode_encode_one (encodes_ldRegReg · · y z) rest
  | ldRegMem y => exact decode_encode_one (encodes_ldRegMem · · y) rest
  | ldMemReg z => exact decode_encode_one (encodes_ldMemReg · · z) rest
  | ldRegImm y v => exact decode_encode_two (encodes_ldRegImm v · y) rest
  | ldPairImm p w => exact decode_encode_word (.ldPairImm p) (encodes_ldPairImm · · p) w rest
  | push p => exact decode_encode_one (encodes_push · · p) rest
  | pop p => exact decode_encode_one (encodes_pop · · p) rest
  | aluReg op z => exact decode_encode_one (encodes_aluReg · · op z) rest
  | aluMem op => exact decode_encode_one (encodes_aluMem · · op) rest
  | aluImm op v => exact decode_encode_two (encodes_aluImm v · op) rest
  | incReg y => exact decode_encode_one (encodes_incReg · · y) rest
  | decReg y => exact decode_encode_one (encodes_decReg · · y) rest
  | addHl p => exact decode_encode_one (encodes_addHl · · p) rest
  | incPair p => exact decode_encode_one (encodes_incPair · · p) rest
  | decPair p => exact decode_encode_one (encodes_decPair · · p) rest
  | rotReg op z => exact decode_encode_two (encodes_rotReg · op z) rest
  | rotMem op => exact decode_encode_two (encodes_rotMem · op) rest
  | bitReg y z => exact decode_encode_two (encodes_bitReg · y z) rest
  | bitMem y => exact decode_encode_two (encodes_bitMem · y) rest
  | resReg y z => exact decode_encode_two (encodes_resReg · y z) rest
  | resMem y => exact decode_encode_two (encodes_resMem · y) rest
  | setReg y z => exact decode_encode_two (encodes_setReg · y z) rest
  | setMem y => exact decode_encode_two (encodes_setMem · y) rest
  | jpCond cc w => exact decode_encode_word (.jpCond cc) (encodes_jpCond · · cc) w rest
  | jrCond cc v => exact decode_encode_two (encodes_jrCond v · cc) rest
  | callCond cc w => exact decode_encode_word (.callCond cc) (encodes_callCond · · cc) w rest
  | retCond cc => exact decode_encode_one (encodes_retCond · · cc) rest
  | rst y => exact decode_encode_one (encodes_rst · · y) rest
  | unknown op => exact decode_encode_one (encodes_unknown · · ((wellFormed_unknown op).1 hwf)) rest
  | prefixCb sub => cases hwf
  | ld_atA16_SP w => exact decode_encode_word (op := 0x08#8) .ld_atA16_SP (fun _ _ => .of_decode rfl rfl) w rest
  | jp_a16 w => exact decode_encode_word (op := 0xC3#8) .jp_a16 (fun _ _ => .of_decode rfl rfl) w rest
  | call_a16 w => exact decode_encode_word (op := 0xCD#8) .call_a16 (fun _ _ => .of_decode rfl rfl) w rest
  | ld_atA16_A w => exact decode_encode_word (op := 0xEA#8) .ld_atA16_A (fun _ _ => .of_decode rfl rfl) w rest
  | ld_A_atA16 w => exact decode_encode_word (op := 0xFA#8) .ld_A_atA16 (fun _ _ => .of_decode rfl rfl) w rest
  | jr_e8 v | ld_atHL_d8 v | ldh_atA8_A v | ldh_A_atA8 v | add_SP_e8 v | ld_HL_SPe8 v =>
    exact decode_encode_two (fun _ => .of_encode rfl rfl rfl) rest
  | nop | ld_atBC_A | rlca | ld_A_atBC | rrca | ld_atDE_A | rla | ld_A_atDE | rra | ld_atHLinc_A | daa | ld_A_atHLinc
  | cpl | ld_atHLdec_A | inc_atHL | dec_atHL | scf | ld_A_atHLdec | ccf | halt | ret | reti | ld_atC_A | jp_HL
  | ld_A_atC | di | ld_SP_HL | ei =>
    exact decode_encode_one (fun _ _ => .of_encode rfl rfl rfl) rest

/-! ## Encoding what was decoded -/

/-- A string the decoder reads is long enough for its first byte. -/
theorem decode_ok_cases {bytes rest : List Byte} {i : Instr} (h : decode bytes = .ok (i, rest)) :
    ∃ op tail, bytes = op :: tail ∧ opcodeLength op ≤ tail.length + 1 ∧
      i = decodeBytes op (tail.getD 0 0#8) (tail.getD 1 0#8) ∧ rest = bytes.drop (opcodeLength op) := by
  cases bytes with
  | nil => cases h
  | cons op tail =>
    by_cases hlen : opcodeLength op ≤ tail.length + 1
    · rw [decode_cons hlen] at h
      cases h
      exact ⟨op, tail, rfl, hlen, rfl, rfl⟩
    · rw [decode, if_pos (Nat.not_le.1 hlen)] at h
      cases h

/-- The zeros the decoder reads past the end of a string are no part of the instruction. -/
theorem take_padded {op : Byte} {tail : List Byte} {n : Nat} (hn : n ≤ 3) (h : n ≤ tail.length + 1) :
    [op, tail.getD 0 0#8, tail.getD 1 0#8].take n = (op :: tail).take n := by
  match tail with
  | [] =>
    have h : n ≤ 1 := h
    interval_cases n <;> rfl
  | [b1] =>
    have h : n ≤ 2 := h
    interval_cases n <;> rfl
  | b1 :: b2 :: rest => interval_cases n <;> rfl

/-- Settles O3: the encoding is as many of the bytes as the length, and decoding leaves the others. -/
theorem encodeInvertsDecode : Obligations.EncodeInvertsDecode := by
  intro bytes i rest h
  obtain ⟨op, tail, rfl, hlen, rfl, rfl⟩ := decode_ok_cases h
  obtain ⟨hencode, hwf⟩ := encode_decodeBytes op (tail.getD 0 0#8) (tail.getD 1 0#8)
  refine ⟨hwf, ?_⟩
  rw [hencode, take_padded (opcodeLength_bounds op).2 hlen, List.take_append_drop]

/-! ## Decoding by an instruction table -/

section
variable {t : InstrTable} {op q : Byte} (b1 b2 : Byte)

theorem InstrTable.instr_of_row_none (h : t.row op = none) : t.instr op b1 b2 = .unknown op := by
  unfold InstrTable.instr
  rw [h]

theorem InstrTable.instr_of_row_some (h : t.row op = some q) :
    t.instr op b1 b2 = if q = 0xCB#8 then decodeCb (t.cbRow b1) else decodeBytes q b1 b2 := by
  unfold InstrTable.instr
  rw [h]

theorem InstrTable.length_of_row_none (h : t.row op = none) : t.length op = 1 := by
  unfold InstrTable.length
  rw [h]

theorem InstrTable.length_of_row_some (h : t.row op = some q) : t.length op = opcodeLength q := by
  unfold InstrTable.length
  rw [h]

end

/-- Settles O4: the length of any first byte is at most the three bytes there are; a table is looked up by its row. -/
theorem decodeTotal : Obligations.DecodeTotal := by
  refine ⟨fun op b1 b2 rest => ?_, fun t op q b1 b2 => ?_⟩
  · obtain ⟨hpos, hle⟩ := opcodeLength_bounds op
    have hlen : opcodeLength op ≤ (b1 :: b2 :: rest).length + 1 := by
      rw [List.length_cons, List.length_cons]
      omega
    exact ⟨decode_cons hlen, hpos, hle, rfl, (decodeBytes_eq_unknown op b1 b2).symm,
      fun h => (encodes_unknown b1 b2 h).2.1⟩
  · refine ⟨fun h => ⟨InstrTable.instr_of_row_none b1 b2 h, InstrTable.length_of_row_none h⟩, fun h hq => ?_,
      fun h => ⟨InstrTable.instr_of_row_some b1 b2 h, InstrTable.length_of_row_some h⟩,
      InstrTable.instr_ref op b1 b2, InstrTable.length_ref op⟩
    rw [InstrTable.instr_of_row_some b1 b2 h, if_neg hq]
    exact ⟨rfl, InstrTable.length_of_row_some h⟩

/-- Settles O1: the decoder computes each word. -/
theorem decodeWords : Obligations.DecodeWords :=
  ⟨rfl, rfl, rfl, rfl, rfl, rfl, rfl, rfl, rfl, rfl, rfl, rfl, rfl, rfl, rfl, rfl, rfl⟩

end Sys2Proof
end

section
/-! PROOFS. The loads, stores and stack instructions (40_loads.md): their exact meanings, their frames by one rule per
elementary update, and the round trip of a word through the stack. -/

namespace Sys2Proof.Machine

/-! ## Exact meanings -/

/-- The step of the autodecrement is the addition of `0xFFFF` (40_loads.md R216, R218). -/
theorem add_ffff_eq_sub_one (v : Word) : v + 0xFFFF#16 = v - 1#16 := (BitVec.sub_eq_add_neg v 1#16).symm

/-- Settles O17 by the encodings and the operations of the forms. -/
theorem loadByte : Obligations.LoadByte := fun b1 b2 s =>
  ⟨fun y z => ⟨encodes_ldRegReg b1 b2 y z, exec_ldRegReg y z s⟩,
    fun y => ⟨encodes_ldRegMem b1 b2 y, exec_ldRegMem y s⟩,
    fun y => ⟨encodes_ldRegImm b1 b2 y, exec_ldRegImm y b1 s⟩,
    ⟨.of_encode rfl rfl rfl, rfl⟩,
    ⟨.of_encode rfl rfl rfl, rfl⟩,
    ⟨.of_decode rfl rfl, rfl⟩,
    ⟨.of_encode rfl rfl rfl, rfl⟩,
    ⟨.of_encode rfl rfl rfl, rfl⟩,
    ⟨.of_encode rfl rfl rfl, rfl⟩,
    ⟨.of_encode rfl rfl rfl, by rw [← add_ffff_eq_sub_one]; rfl⟩⟩

/-- Settles O18 by the encodings and the operations of the forms. -/
theorem storeByte : Obligations.StoreByte := fun b1 b2 s =>
  ⟨fun z => ⟨encodes_ldMemReg b1 b2 z, exec_ldMemReg z s⟩,
    ⟨.of_encode rfl rfl rfl, rfl⟩,
    ⟨.of_encode rfl rfl rfl, rfl⟩,
    ⟨.of_encode rfl rfl rfl, rfl⟩,
    ⟨.of_decode rfl rfl, rfl⟩,
    ⟨.of_encode rfl rfl rfl, rfl⟩,
    ⟨.of_encode rfl rfl rfl, rfl⟩,
    ⟨.of_encode rfl rfl rfl, rfl⟩,
    ⟨.of_encode rfl rfl rfl, by rw [← add_ffff_eq_sub_one]; rfl⟩⟩

/-- Settles O19 by the encodings and the operations of the forms. -/
theorem loadPair : Obligations.LoadPair := fun b1 b2 s =>
  ⟨fun p => ⟨encodes_ldPairImm b1 b2 p, exec_ldPairImm p (b2 ++ b1) s⟩,
    ⟨.of_decode rfl rfl, rfl⟩,
    ⟨.of_encode rfl rfl rfl, rfl⟩,
    ⟨.of_encode rfl rfl rfl, rfl⟩⟩

/-- A push with the addresses of its two stores written out (40_loads.md R240). -/
theorem push16_eq (v : Word) (s : State) :
    push16 v s =
      busWrite ((busWrite (s.setSp (s.regs.sp - 1#16)) (s.regs.sp - 1#16) (hiByte v)).setSp (s.regs.sp - 2#16))
        (s.regs.sp - 2#16) (loByte v) := by
  have hsp : s.regs.sp - 1#16 - 1#16 = s.regs.sp - 2#16 := BitVec.sub_sub ..
  unfold push16
  simp only [State.setSp_regs_sp, busWrite_regs, hsp]

/-- Settles O20: the stores of a push are those of `push16_eq`; the rest is the operations of the forms. -/
theorem pushPop : Obligations.PushPop := fun b1 b2 s p =>
  ⟨⟨encodes_push b1 b2 p, by rw [exec_push, opPush, push16_eq]; rfl⟩,
    ⟨encodes_pop b1 b2 p, exec_pop p s⟩,
    rfl⟩

/-! ## Frames, by elementary update

Each rule keeps a frame through one update that the frame allows. An instruction's frame is `Frame.refl` followed by the
rules of its updates. -/

theorem reg8_setF (s : State) (v : Byte) (q : Reg8) : (s.setF v).reg8 q = s.reg8 q := by cases q <;> rfl
theorem reg8_setSp (s : State) (v : Word) (q : Reg8) : (s.setSp v).reg8 q = s.reg8 q := by cases q <;> rfl

namespace Frame

section
variable {s t : State} {dst : List Reg8} {sp flags : Bool} {stored : List Word}

theorem refl : Frame s s dst sp flags stored where
  regs _ _ := rfl
  sp _ := rfl
  flags _ := rfl
  lowF := rfl
  memory _ _ := rfl
  cfg := rfl
  ime := rfl
  halted := rfl
  eiPending := rfl
  rom := ⟨rfl, rfl⟩
  timaSub := rfl
  fb := rfl
  spu _ := ⟨rfl, rfl⟩
  events := rfl
  storeless _ := ⟨rfl, rfl, rfl, rfl, rfl, rfl⟩

/-- The cycle count is not framed. -/
theorem charge (n : Nat) (h : Frame s t dst sp flags stored) : Frame s (t.charge n) dst sp flags stored :=
  { h with }

theorem setReg8 {r : Reg8} (v : Byte) (h : Frame s t dst sp flags stored) (hr : r ∈ dst := by simp) :
    Frame s (t.setReg8 r v) dst sp flags stored :=
  { h with
    regs q hq := (State.reg8_setReg8_ne t (ne_of_mem_of_not_mem hr hq).symm v).trans (h.regs q hq)
    sp hsp := (State.setReg8_regs_sp t r v).trans (h.sp hsp)
    flags hf := (State.setReg8_regs_f t r v).trans (h.flags hf)
    lowF := by rw [State.setReg8_regs_f]; exact h.lowF }

theorem setSp (v : Word) (h : Frame s t dst true flags stored) : Frame s (t.setSp v) dst true flags stored :=
  { h with
    regs q hq := (reg8_setSp t v q).trans (h.regs q hq)
    sp := nofun }

theorem setF {v : Byte} (hv : v &&& 0x0F#8 = t.regs.f &&& 0x0F#8) (h : Frame s t dst sp true stored) :
    Frame s (t.setF v) dst sp true stored :=
  { h with
    regs q hq := (reg8_setF t v q).trans (h.regs q hq)
    flags := nofun
    lowF := hv.trans h.lowF }

theorem setFlags (fl : Flags) (h : Frame s t dst sp true stored) : Frame s (t.setFlags fl) dst sp true stored :=
  setF (Built.withFlags_low _ _) h

theorem setA (v : Byte) (h : Frame s t dst sp flags stored) (ha : .a ∈ dst := by simp) :
    Frame s (t.setA v) dst sp flags stored :=
  setReg8 (r := .a) v h ha

theorem setHl (v : Word) (h : Frame s t dst sp flags stored) (hh : .h ∈ dst := by simp) (hl : .l ∈ dst := by simp) :
    Frame s (t.setHl v) dst sp flags stored :=
  setReg8 (r := .l) (loByte v) (setReg8 (r := .h) (hiByte v) h hh) hl

/-- A pair is written one byte register at a time; `SP` is no byte register. -/
theorem setPair {p : Pair} (v : Word) (h : Frame s t (pairRegs p) (decide (p = .sp)) flags stored) :
    Frame s (t.setPair p v) (pairRegs p) (decide (p = .sp)) flags stored := by
  cases p with
  | bc => exact setReg8 (r := .c) (loByte v) (setReg8 (r := .b) (hiByte v) h (by decide)) (by decide)
  | de => exact setReg8 (r := .e) (loByte v) (setReg8 (r := .d) (hiByte v) h (by decide)) (by decide)
  | hl => exact setHl v h (by decide) (by decide)
  | sp => exact setSp v h

/-- A pop into `AF` clears the low nibble of `F`, which is clear in a legal register file (10_state.md R24). -/
theorem setStackPair {p : StackPair} (v : Word) (hlegal : t.regs.Legal)
    (h : Frame s t (stackPairRegs p) sp (decide (p = .af)) stored) :
    Frame s (t.setStackPair p v) (stackPairRegs p) sp (decide (p = .af)) stored := by
  cases p with
  | bc => exact setReg8 (r := .c) (loByte v) (setReg8 (r := .b) (hiByte v) h (by decide)) (by decide)
  | de => exact setReg8 (r := .e) (loByte v) (setReg8 (r := .d) (hiByte v) h (by decide)) (by decide)
  | hl => exact setHl v h (by decide) (by decide)
  | af => exact setF (t := t.setA (hiByte v)) ((Built.and_f0_legal _).trans hlegal.symm) (setA (hiByte v) h (by decide))

theorem busWrite {a : Word} (v : Byte) (h : Frame s t dst sp flags stored) (ha : a ∈ stored := by simp) :
    Frame s (busWrite t a v) dst sp flags stored := by
  obtain ⟨hrom, hbanks, htima, hfb⟩ := busWrite_hidden t a v
  have hregs := busWrite_regs t a v
  exact {
    regs q hq := by rw [← h.regs q hq]; unfold State.reg8; rw [hregs]
    sp := hregs.symm ▸ h.sp
    flags := hregs.symm ▸ h.flags
    lowF := hregs.symm ▸ h.lowF
    memory b hb := (busRead_busWrite_ne t v (h.cfg.symm ▸ hb a ha)).trans (h.memory b hb)
    cfg := (busWrite_cfg t a v).trans h.cfg
    ime := (busWrite_ime t a v).trans h.ime
    halted := (busWrite_halted t a v).trans h.halted
    eiPending := (busWrite_eiPending t a v).trans h.eiPending
    rom := ⟨hrom.trans h.rom.1, hbanks.trans h.rom.2⟩
    timaSub := htima.trans h.timaSub
    fb := hfb.trans h.fb
    spu hunmapped := by
      obtain ⟨hspu, hfree⟩ := busWrite_spu t a v (h.cfg.symm ▸ hunmapped a ha)
      exact ⟨hspu.trans (h.spu hunmapped).1, hfree.trans (h.spu hunmapped).2⟩
    events := (busWrite_events t a v).trans h.events
    storeless hnone := absurd ha (hnone ▸ List.not_mem_nil) }

/-- A push stores to its two addresses and moves `SP`. -/
theorem push16 (v : Word) : Frame s (push16 v s) dst true flags (pushAddresses s) := by
  rw [push16_eq]
  exact busWrite _ (setSp _ (busWrite _ (setSp _ refl) (by simp [pushAddresses]))) (by simp [pushAddresses])

/-- The frame of an instruction is that of the one state its meaning answers. -/
theorem of_exec {i : Instr} {u : State} (hu : exec i s = .next u) (h : Frame s u dst sp flags stored)
    (ht : exec i s = .next t) : Frame s t dst sp flags stored := by
  cases hu.symm.trans ht
  exact h

end

end Frame

/-! ## The frames of loads and stores -/

section
variable {s t : State}

theorem frame_opLoadA {a : Word} {n : Nat} (h : opLoadA a n s = .next t) : Frame s t [.a] false false [] := by
  cases h
  exact .charge _ (.setA _ .refl)

theorem frame_opLoadAStep {d : Word} (h : opLoadAStep d s = .next t) : Frame s t [.a, .h, .l] false false [] := by
  cases h
  exact .charge _ (.setHl _ (.setA _ .refl))

theorem frame_opStoreA {a : Word} {n : Nat} (h : opStoreA a n s = .next t) : Frame s t [] false false [a] := by
  cases h
  exact .charge _ (.busWrite _ .refl)

theorem frame_opStoreAStep {d : Word} (h : opStoreAStep d s = .next t) : Frame s t [.h, .l] false false [s.hl] := by
  cases h
  exact .charge _ (.setHl _ (.busWrite _ .refl))

end

/-- Settles O37: each load is built of register updates that its frame allows, and of no store. -/
theorem loadFrame : Obligations.LoadFrame := fun s t =>
  ⟨fun y z => .of_exec (exec_ldRegReg y z s) (.charge _ (.setReg8 _ .refl)),
    fun y => .of_exec (exec_ldRegMem y s) (.charge _ (.setReg8 _ .refl)),
    fun y v => .of_exec (exec_ldRegImm y v s) (.charge _ (.setReg8 _ .refl)),
    List.forall_mem_cons.2 ⟨frame_opLoadA,
      List.forall_mem_cons.2 ⟨frame_opLoadA, List.forall_mem_singleton.2 frame_opLoadA⟩⟩,
    fun _ => frame_opLoadA,
    fun _ => frame_opLoadA,
    List.forall_mem_cons.2 ⟨frame_opLoadAStep, List.forall_mem_singleton.2 frame_opLoadAStep⟩,
    fun p v => .of_exec (exec_ldPairImm p v s) (.charge _ (.setPair _ .refl)),
    .of_exec (i := .ld_SP_HL) rfl (.charge _ (.setSp _ .refl)),
    fun e => .of_exec (i := .ld_HL_SPe8 e) rfl (.charge _ (.setFlags _ (.setHl _ .refl))),
    fun p hlegal => .of_exec (exec_pop p s) (.charge _ (.setStackPair _ hlegal (.setSp _ .refl)))⟩

/-- Settles O38: each store is built of bus writes at the addresses of its frame, and of the register update that the
addressing makes. -/
theorem storeFrame : Obligations.StoreFrame := fun s t =>
  ⟨fun z => .of_exec (exec_ldMemReg z s) (.charge _ (.busWrite _ .refl)),
    fun v => .of_exec (i := .ld_atHL_d8 v) rfl (.charge _ (.busWrite _ .refl)),
    frame_opStoreA,
    frame_opStoreA,
    fun _ => frame_opStoreA,
    fun _ => frame_opStoreA,
    frame_opStoreA,
    List.forall_mem_cons.2 ⟨frame_opStoreAStep, List.forall_mem_singleton.2 frame_opStoreAStep⟩,
    fun a => .of_exec (i := .ld_atA16_SP a) rfl (.charge _ (.busWrite _ (.busWrite _ .refl))),
    fun p => .of_exec (exec_push p s) (.charge _ (.push16 _))⟩

/-! ## A word pushed is the word popped -/

/-- A write to memory that takes it reaches the byte's own place only. -/
theorem reaches_of_takesWrite {s : State} {a b : Word} (ha : (region s.cfg a).TakesWrite s)
    (hne : unecho s.cfg.memoryMap a.toNat ≠ unecho s.cfg.memoryMap b.toNat) : reaches s.cfg a b = false := by
  unfold reaches
  rw [decide_eq_false hne, Bool.false_or]
  generalize region s.cfg a = p at ha
  cases p
  case io => exact ha.elim
  all_goals rfl

/-- Where the stack is in the work RAM, both bytes of a push are stored: the store of the low byte does not reach the
high byte's place. -/
theorem popped_push16 {s : State} (hs : s.Inv) (hm : s.cfg.memoryMap = MemoryMap.ref) (h1 : 0xC002 ≤ s.regs.sp.toNat)
    (h2 : s.regs.sp.toNat ≤ 0xE000) (v : Word) : popped (push16 v s) = v := by
  rw [push16_eq]
  generalize hhi : s.regs.sp - 1#16 = hi
  generalize hlo : s.regs.sp - 2#16 = lo
  have haddr : lo + 1#16 = hi := by bv_omega
  have hfirst : 0xC000 ≤ lo.toNat := by bv_omega
  have hlast : lo.toNat ≤ 0xDFFE := by bv_omega
  have hnext : hi.toNat = lo.toNat + 1 := by bv_omega
  generalize hu : busWrite (s.setSp hi) hi (hiByte v) = u
  have hcfg : u.cfg = s.cfg := by rw [← hu, busWrite_cfg, State.setSp_cfg]
  have hstart : (s.setSp hi).Inv := (Built.setSp hi .refl).inv hs
  have hmid : (u.setSp lo).Inv := by
    rw [← hu]
    exact (Built.setSp _ (.busWrite _ _ .refl)).inv hstart
  have htakes : (region (u.setSp lo).cfg lo).TakesWrite (u.setSp lo) :=
    takesWrite_region_ref (hcfg ▸ hm) (.inr (.inl ⟨hfirst, by omega⟩))
  have hlow : busRead (busWrite (u.setSp lo) lo (loByte v)) lo = loByte v :=
    busRead_busWrite_of_takesWrite hmid rfl htakes _
  have hapart : reaches (u.setSp lo).cfg lo hi = false := by
    refine reaches_of_takesWrite htakes ?_
    rw [State.setSp_cfg, hcfg, hm, unecho_ref, unecho_ref, if_neg (by omega), if_neg (by omega)]
    omega
  have hhigh : busRead (busWrite (u.setSp lo) lo (loByte v)) hi = hiByte v := by
    rw [busRead_busWrite_ne _ _ hapart, busRead_setSp, ← hu]
    exact busRead_busWrite_of_takesWrite hstart rfl
      (takesWrite_region_ref hm (.inr (.inl ⟨by omega, by omega⟩))) _
  unfold popped busRead16
  rw [busWrite_regs, State.setSp_regs_sp, haddr, hlow, hhigh, State.hiByte_append_loByte]

theorem popped_charge (s : State) (n : Nat) : popped (s.charge n) = popped s := rfl

theorem afterPop_charge_regs (s : State) (n : Nat) : (afterPop (s.charge n)).regs = (afterPop s).regs := rfl

/-- A pop after a push has `SP` and every other register where they were. -/
theorem afterPop_push16_regs (v : Word) (s : State) : (afterPop (push16 v s)).regs = s.regs := by
  rw [push16_eq]
  simp [afterPop, State.setSp]

theorem Regs.Legal.and_f0 {g : Regs} (h : g.Legal) : g.f &&& 0xF0#8 = g.f := by
  have hall : ∀ f : Byte, f &&& 0x0F#8 = 0#8 → f &&& 0xF0#8 = f := by decide
  exact hall g.f h

/-- Writing a stack pair's own value changes no register of a legal register file. -/
theorem setStackPair_stackPair_regs {s : State} (h : s.regs.Legal) (p : StackPair) :
    (s.setStackPair p (s.stackPair p)).regs = s.regs := by
  cases p with
  | bc => simp [State.setStackPair, State.stackPair, State.setBc, State.bc]
  | de => simp [State.setStackPair, State.stackPair, State.setDe, State.de]
  | hl => simp [State.setStackPair, State.stackPair, State.setHl, State.hl]
  | af => simp [State.setStackPair, State.stackPair, State.setAf, State.af, Regs.Legal.and_f0 h]

theorem stackPair_congr {s t : State} (h : t.regs = s.regs) (p : StackPair) : t.stackPair p = s.stackPair p := by
  cases p <;> simp only [State.stackPair, State.bc, State.de, State.hl, State.af, h]

/-- Settles O21: the word popped is the word pushed, `SP` is back where it was, and a pair written its own value is
unchanged. -/
theorem pushThenPop : Obligations.PushThenPop := by
  intro p s t u hs hm h1 h2 hpush hpop
  rw [exec_push] at hpush
  rw [exec_pop] at hpop
  have ⟨hword, hback⟩ : popped t = s.stackPair p ∧ (afterPop t).regs = s.regs := by
    cases hpush
    rw [popped_charge, afterPop_charge_regs]
    exact ⟨popped_push16 hs hm h1 h2 _, afterPop_push16_regs _ s⟩
  have hregs : u.regs = s.regs := by
    cases hpop
    rw [State.charge_regs, hword, ← stackPair_congr hback,
      setStackPair_stackPair_regs (hback ▸ hs.regs), hback]
  exact ⟨hregs, stackPair_congr hregs p⟩

end Sys2Proof.Machine
end

section
/-! PROOFS. The 8-bit arithmetic and logic instructions (41_alu8.md): their flag computations against the statements'
forms, their exact meanings, and the frames of every instruction that computes on a register or on the byte at `HL`. -/

namespace Sys2Proof.Machine

/-! ## The instructions that stand alone -/

theorem exec_inc_atHL (s : State) : exec .inc_atHL s = opIncMem s := rfl
theorem exec_dec_atHL (s : State) : exec .dec_atHL s = opDecMem s := rfl
theorem exec_daa (s : State) : exec .daa s = opDaa s := rfl

/-! ## The three operand forms of an accumulator operation -/

/-- Each form applies the operation to the value of its operand. -/
theorem forAluForms_exec (op : AluOp) (s : State) :
    ForAluForms op s fun i v n => exec i s = .next ((aluApply op v s).charge n) :=
  ⟨fun r => exec_aluReg op r s, exec_aluMem op s, fun v => exec_aluImm op v s⟩

theorem ForAluForms.imp {op : AluOp} {s : State} {P Q : Instr → Byte → Nat → Prop} (hPQ : ∀ i v n, P i v n → Q i v n)
    (h : ForAluForms op s P) : ForAluForms op s Q :=
  ⟨fun r => hPQ _ _ _ (h.1 r), hPQ _ _ _ h.2.1, fun v => hPQ _ _ _ (h.2.2 v)⟩

theorem ForAluForms.of_aluApply {op : AluOp} {s : State} {f : Byte → State} (h : ∀ v, aluApply op v s = f v) :
    ForAluForms op s fun i v n => exec i s = .next ((f v).charge n) :=
  (forAluForms_exec op s).imp fun _ v _ hexec => h v ▸ hexec

/-- `CP` writes back into `A` the value it has (41_alu8.md R267). -/
theorem aluApply_cp (v : Byte) (s : State) : aluApply .cp v s = s.setFlags (subResult s.regs.a v false).2 := rfl

/-! ## Results on unbounded numbers as results on bytes -/

/-- A difference of unbounded numbers narrows to the difference of the bytes (00_scope.md R9). -/
theorem ofInt_sub_natCast (d : Int) (k : Nat) : BitVec.ofInt 8 (d - k) = BitVec.ofInt 8 d - BitVec.ofNat 8 k := by
  rw [Int.sub_eq_add_neg, BitVec.ofInt_add, BitVec.ofInt_neg, BitVec.ofInt_natCast, BitVec.sub_eq_add_neg]

theorem ofInt_toNat (v : Byte) : BitVec.ofInt 8 v.toNat = v := by
  rw [BitVec.ofInt_natCast, BitVec.ofNat_toNat, BitVec.setWidth_eq]

theorem ofNat_toNat_add (v : Byte) (k : Nat) : BitVec.ofNat 8 (v.toNat + k) = v + BitVec.ofNat 8 k := by
  rw [BitVec.ofNat_add, BitVec.ofNat_toNat, BitVec.setWidth_eq]

theorem ofInt_eq_zero_iff (d : Int) : BitVec.ofInt 8 d = 0#8 ↔ d % 256 = 0 := by
  rw [← BitVec.toNat_inj, BitVec.toNat_ofInt]
  change (d % 256).toNat = 0 ↔ d % 256 = 0
  omega

/-- The low nibble by a mask is the low nibble by a remainder. -/
theorem and_0f_eq_iff (v k : Byte) : v &&& 0x0F#8 = k ↔ v.toNat % 16 = k.toNat := by
  rw [← BitVec.toNat_inj, BitVec.toNat_and]
  exact Eq.congr_left (Nat.and_two_pow_sub_one_eq_mod v.toNat 4)

/-- `A - v - c` with its zero test on the byte (41_alu8.md R262, R263). -/
theorem subResult_eq (a v : Byte) (cin : Bool) :
    subResult a v cin =
      (a - v - BitVec.ofNat 8 cin.toNat,
        { z := decide (a - v - BitVec.ofNat 8 cin.toNat = 0#8), n := true
          h := decide (a.toNat % 16 < v.toNat % 16 + cin.toNat), c := decide (a.toNat < v.toNat + cin.toNat) }) := by
  have hdiff : BitVec.ofInt 8 ((a.toNat : Int) - v.toNat - cin.toNat) = a - v - BitVec.ofNat 8 cin.toNat := by
    rw [ofInt_sub_natCast, ofInt_sub_natCast, ofInt_toNat, BitVec.ofNat_toNat, BitVec.setWidth_eq]
  unfold subResult
  simp only [← ofInt_eq_zero_iff, hdiff]

/-- With no borrow coming in the difference is zero exactly where the operands agree (41_alu8.md R262, R267). -/
theorem subResult_false (a v : Byte) :
    subResult a v false =
      (a - v,
        { z := decide (a = v), n := true
          h := decide (a.toNat % 16 < v.toNat % 16), c := decide (a.toNat < v.toNat) }) := by
  have hzero : a - v - BitVec.ofNat 8 false.toNat = a - v := BitVec.sub_zero (a - v)
  have hagree : a - v = 0#8 ↔ a = v := sub_eq_zero
  rw [subResult_eq, hzero]
  simp only [hagree, Bool.toNat_false, Nat.add_zero]

/-- `v + 1` on the byte; the carry out of bit 3 is a full low nibble (41_alu8.md R268). -/
theorem incResult_eq (v : Byte) (fl : Flags) :
    incResult v fl =
      (v + 1#8, { z := decide (v + 1#8 = 0#8), n := false, h := decide (v &&& 0x0F#8 = 0x0F#8), c := fl.c }) := by
  unfold incResult
  simp only [ofNat_toNat_add, and_0f_eq_iff]
  rfl

/-- `v - 1` on the byte; the borrow from bit 4 is an empty low nibble (41_alu8.md R270). -/
theorem decResult_eq (v : Byte) (fl : Flags) :
    decResult v fl =
      (v - 1#8, { z := decide (v - 1#8 = 0#8), n := true, h := decide (v &&& 0x0F#8 = 0x00#8), c := fl.c }) := by
  have hdiff : BitVec.ofInt 8 ((v.toNat : Int) - 1) = v - 1#8 :=
    (ofInt_sub_natCast v.toNat 1).trans (congrArg (· - 1#8) (ofInt_toNat v))
  unfold decResult
  simp only [hdiff, and_0f_eq_iff]
  rfl

/-! ## Decimal adjustment -/

/-- The two adjustments of `DAA` set no common bit: their sum is their disjunction. -/
theorem ofNat_daaAdjust (lo hi : Bool) :
    BitVec.ofNat 8 ((if lo then 0x06 else 0) + (if hi then 0x60 else 0)) =
      (if hi then 0x60#8 else 0x00#8) ||| (if lo then 0x06#8 else 0x00#8) := by
  cases lo <;> cases hi <;> rfl

/-- `DAA` after an addition (`fN` clear) tests the digits, after a subtraction the flags alone (41_alu8.md R272). -/
theorem daaResult_eq (a : Byte) (fl : Flags) :
    let lo : Byte := if fl.h || (!fl.n && decide (9 < a.toNat % 16)) then 0x06#8 else 0x00#8
    let hi : Byte := if fl.c || (!fl.n && decide (0x99 < a.toNat)) then 0x60#8 else 0x00#8
    let r : Byte := if fl.n then a - (hi ||| lo) else a + (hi ||| lo)
    daaResult a fl =
      (r, { z := decide (r = 0#8), n := fl.n, h := false, c := fl.c || (!fl.n && decide (0x99 < a.toNat)) }) := by
  obtain ⟨z, n, h, c⟩ := fl
  cases n with
  | false =>
    have hsum : BitVec.ofNat 8 (a.toNat + daaAddAdjust a ⟨z, false, h, c⟩) = _ :=
      (ofNat_toNat_add a _).trans (congrArg (a + ·) (ofNat_daaAdjust _ _))
    simp [daaResult, hsum]
  | true =>
    have hdiff : BitVec.ofInt 8 ((a.toNat : Int) - daaSubAdjust ⟨z, true, h, c⟩) = _ :=
      (ofInt_sub_natCast a.toNat _).trans (congrArg₂ (· - ·) (ofInt_toNat a) (ofNat_daaAdjust h c))
    simp [daaResult, hdiff]

/-! ## Exact meanings -/

/-- Settles O22: the sum and its flags are those of `addResult`. -/
theorem addAdc : Obligations.AddAdc :=
  ⟨aluEncoded .add, aluEncoded .adc, fun _ => ⟨.of_aluApply fun _ => rfl, .of_aluApply fun _ => rfl⟩⟩

/-- Settles O23 by the difference on bytes. -/
theorem subSbcCp : Obligations.SubSbcCp := by
  refine ⟨aluEncoded .sub, aluEncoded .sbc, aluEncoded .cp,
    fun s => ⟨.of_aluApply fun v => ?_, .of_aluApply fun v => ?_, .of_aluApply fun v => ?_⟩⟩
  · simp only [aluApply, aluResult, subResult_false]
  · simp only [aluApply, aluResult, subResult_eq]
  · rw [aluApply_cp, subResult_false]

/-- Settles O24: the result and its flags are those of `logicResult`. -/
theorem logicOps : Obligations.LogicOps :=
  ⟨aluEncoded .and, aluEncoded .xor, aluEncoded .or,
    fun _ => ⟨.of_aluApply fun _ => rfl, .of_aluApply fun _ => rfl, .of_aluApply fun _ => rfl⟩⟩

/-- Settles O25 by the results on bytes. -/
theorem incDecByte : Obligations.IncDecByte := fun b1 b2 s =>
  ⟨fun r => ⟨encodes_incReg b1 b2 r, by rw [exec_incReg, opIncReg, incResult_eq]⟩,
    ⟨.of_encode rfl rfl rfl, by simp only [exec_inc_atHL, opIncMem, incResult_eq]⟩,
    fun r => ⟨encodes_decReg b1 b2 r, by rw [exec_decReg, opDecReg, decResult_eq]⟩,
    ⟨.of_encode rfl rfl rfl, by simp only [exec_dec_atHL, opDecMem, decResult_eq]⟩⟩

/-- Settles O26 by `daaResult_eq`; the other three are the definitions of their operations. -/
theorem adjustAndComplement : Obligations.AdjustAndComplement := by
  intro b1 b2 s lo hi a
  refine ⟨⟨.of_encode rfl rfl rfl, ?_⟩, ⟨.of_encode rfl rfl rfl, rfl⟩, ⟨.of_encode rfl rfl rfl, rfl⟩,
    ⟨.of_encode rfl rfl rfl, rfl⟩⟩
  rw [exec_daa, opDaa, daaResult_eq]

/-! ## Frames -/

section
variable {s t : State}

/-- An instruction on the accumulator writes `A`, then the flags. -/
theorem Frame.of_accumulator {i : Instr} {v : Byte} {fl : Flags} {n : Nat}
    (hi : exec i s = .next (((s.setA v).setFlags fl).charge n)) (ht : exec i s = .next t) :
    Frame s t [.a] false true [] :=
  .of_exec hi (.charge _ (.setFlags _ (.setA _ .refl))) ht

theorem frame_alu (op : AluOp) :
    ForAluForms op s fun i _ _ => exec i s = .next t → Frame s t [.a] false true [] :=
  (forAluForms_exec op s).imp fun _ _ _ => .of_accumulator

theorem frame_cp : ForAluForms .cp s fun i _ _ => exec i s = .next t → Frame s t [] false true [] :=
  (forAluForms_exec .cp s).imp fun _ v _ hi => .of_exec hi (aluApply_cp v s ▸ .charge _ (.setFlags _ .refl))

end

/-- Settles O39: each instruction is built of register and flag updates that its frame allows, and of no store. -/
theorem arithmeticFrame : Obligations.ArithmeticFrame := fun s t =>
  ⟨fun op _ => frame_alu op,
    frame_cp,
    fun r => .of_exec (exec_incReg r s) (.charge _ (.setFlags _ (.setReg8 _ .refl))),
    fun r => .of_exec (exec_decReg r s) (.charge _ (.setFlags _ (.setReg8 _ .refl))),
    fun i hi => by fin_cases hi <;> exact .of_accumulator rfl,
    fun i hi => by fin_cases hi <;> exact .of_exec rfl (.charge _ (.setFlags _ .refl)),
    fun p => .of_exec (exec_addHl p s) (.charge _ (.setFlags _ (.setHl _ .refl))),
    fun p => .of_exec (exec_incPair p s) (.charge _ (.setPair _ .refl)),
    fun p => .of_exec (exec_decPair p s) (.charge _ (.setPair _ .refl)),
    fun e => .of_exec (i := .add_SP_e8 e) rfl (.charge _ (.setFlags _ (.setSp _ .refl))),
    fun op r => .of_exec (exec_rotReg op r s) (.charge _ (.setFlags _ (.setReg8 _ .refl))),
    fun i r => .of_exec (exec_bitReg i r s) (.charge _ (.setFlags _ .refl)),
    fun i => .of_exec (exec_bitMem i s) (.charge _ (.setFlags _ .refl)),
    fun i r => .of_exec (exec_resReg i r s) (.charge _ (.setReg8 _ .refl)),
    fun i r => .of_exec (exec_setReg i r s) (.charge _ (.setReg8 _ .refl))⟩

/-- Settles O40: each instruction is one bus write at `HL`, after the flags where it writes them. -/
theorem readModifyWriteFrame : Obligations.ReadModifyWriteFrame := fun s t =>
  ⟨List.forall_mem_cons.2 ⟨.of_exec (exec_inc_atHL s) (.charge _ (.busWrite _ (.setFlags _ .refl))),
      List.forall_mem_singleton.2 (.of_exec (exec_dec_atHL s) (.charge _ (.busWrite _ (.setFlags _ .refl))))⟩,
    fun op => .of_exec (exec_rotMem op s) (.charge _ (.busWrite _ (.setFlags _ .refl))),
    fun i => .of_exec (exec_resMem i s) (.charge _ (.busWrite _ .refl)),
    fun i => .of_exec (exec_setMem i s) (.charge _ (.busWrite _ .refl))⟩

end Sys2Proof.Machine
end

section
/-! PROOFS. The 16-bit arithmetic instructions (42_alu16.md): the sum of `ADD HL,rp` as a sum of words, and the exact
meanings. -/

namespace Sys2Proof.Machine

/-- The narrowed sum of the two numbers is the sum of the two words (42_alu16.md R300). -/
theorem addHlResult_eq (a b : Word) (fl : Flags) :
    addHlResult a b fl =
      (a + b,
        { z := fl.z, n := false
          h := decide (0x0FFF < a.toNat % 0x1000 + b.toNat % 0x1000), c := decide (0xFFFF < a.toNat + b.toNat) }) := by
  rw [BitVec.add_def, addHlResult]

/-- Settles O28: `ADD HL,rp` by its sum on words; the other three are the encodings and the operations of the forms. -/
theorem wordArithmetic : Obligations.WordArithmetic := fun b1 b2 s =>
  ⟨fun p => ⟨encodes_addHl b1 b2 p, by rw [exec_addHl, opAddHl, addHlResult_eq]⟩,
    fun p => ⟨encodes_incPair b1 b2 p, exec_incPair p s⟩,
    fun p => ⟨encodes_decPair b1 b2 p, exec_decPair p s⟩,
    ⟨.of_encode rfl rfl rfl, rfl⟩⟩

end Sys2Proof.Machine
end

section
/-! PROOFS. The rotates, shifts and bit instructions (43_rotates_bits.md): the bit patterns they make against the
statements' arithmetic, and the exact meanings. -/

namespace Sys2Proof.Machine

/-! ## Bits and parts of a byte as numbers -/

theorem toNat_getLsbD (v : Byte) (i : Nat) : (v.getLsbD i).toNat = v.toNat / 2 ^ i % 2 := Nat.toNat_testBit v.toNat i

theorem toNat_bit7 (v : Byte) : (v.getLsbD 7).toNat = v.toNat / 128 := by
  rw [toNat_getLsbD]
  omega

theorem toNat_bit0 (v : Byte) : (v.getLsbD 0).toNat = v.toNat % 2 := by rw [toNat_getLsbD, Nat.pow_zero, Nat.div_one]

/-- A byte moved one place to the left with `b` coming in below. -/
theorem toNat_shiftIn_low (v : Byte) (b : Bool) :
    (v.setWidth 7 ++ BitVec.ofBool b).toNat = v.toNat * 2 % 256 + b.toNat := by
  change ((v.setWidth 7).concat b).toNat = _
  rw [BitVec.toNat_concat, BitVec.toNat_setWidth]
  omega

/-- A byte moved one place to the right with `b` coming in above. -/
theorem toNat_shiftIn_high (v : Byte) (b : Bool) :
    (BitVec.ofBool b ++ (v >>> 1).setWidth 7).toNat = v.toNat / 2 + 128 * b.toNat := by
  change (BitVec.cons b ((v >>> 1).setWidth 7)).toNat = _
  rw [BitVec.toNat_cons', BitVec.toNat_setWidth, BitVec.toNat_ushiftRight]
  omega

/-- The disjunction of a multiple of `2 ^ i` and a number below `2 ^ i` is their sum. -/
theorem toNat_or_of_lt {x y : Byte} {i a : Nat} (hx : x.toNat = 2 ^ i * a) (hy : y.toNat < 2 ^ i) :
    (x ||| y).toNat = x.toNat + y.toNat := by
  rw [BitVec.toNat_or, hx, Nat.two_pow_add_eq_or_of_lt hy]

/-- The disjunction of two bytes that set no common bit is their sum, which a byte holds. -/
theorem toNat_or_of_and_eq_zero {x y : Byte} (h : x &&& y = 0#8) : (x ||| y).toNat = x.toNat + y.toNat := by
  have hle : x.toNat ≤ (x ||| y).toNat := by
    rw [BitVec.toNat_or]
    exact Nat.left_le_or
  rw [← BitVec.add_eq_or_of_and_eq_zero x y h, BitVec.toNat_add] at hle ⊢
  omega

/-! ## Rotates and shifts -/

theorem toNat_rotCarry (op : RotOp) (v : Byte) (n : Nat) : (rotCarry op v).toNat = (rotArith op v.toNat n).2 := by
  cases op with
  | rlc | rl | sla => exact toNat_bit7 v
  | rrc | rr | sra | srl => exact toNat_bit0 v
  | swap => rfl

theorem toNat_rotValue (op : RotOp) (v : Byte) (cin : Bool) :
    (rotValue op v cin).toNat = (rotArith op v.toNat cin.toNat).1 := by
  have hleft (k : Nat) : (v <<< k).toNat = v.toNat * 2 ^ k % 256 := by rw [BitVec.toNat_shiftLeft, Nat.shiftLeft_eq]
  have hright (k : Nat) : (v >>> k).toNat = v.toNat / 2 ^ k := by
    rw [BitVec.toNat_ushiftRight, Nat.shiftRight_eq_div_pow]
  cases op with
  | rlc => exact (toNat_shiftIn_low v _).trans (congrArg _ (toNat_bit7 v))
  | rrc => exact (toNat_shiftIn_high v _).trans (congrArg (v.toNat / 2 + 128 * ·) (toNat_bit0 v))
  | rl => exact toNat_shiftIn_low v cin
  | rr => exact toNat_shiftIn_high v cin
  | sla => exact hleft 1
  | srl => exact hright 1
  | sra =>
    have hsign : (v &&& 0x80#8).toNat = 2 ^ 7 * (v.toNat / 128) := by
      rw [← toNat_bit7, Nat.mul_comm]
      exact Nat.and_two_pow v.toNat 7
    change ((v >>> 1) ||| (v &&& 0x80#8)).toNat = v.toNat / 2 + v.toNat / 128 * 128
    rw [BitVec.or_comm, toNat_or_of_lt hsign (by rw [hright]; omega), hsign, hright]
    omega
  | swap =>
    have hhigh : (v <<< 4).toNat = 2 ^ 4 * (v.toNat % 16) := by rw [hleft]; omega
    change ((v <<< 4) ||| (v >>> 4)).toNat = v.toNat % 16 * 16 + v.toNat / 16
    rw [toNat_or_of_lt hhigh (by rw [hright]; omega), hhigh, hright]
    omega

/-- The byte of a rotate or shift is its arithmetic on the operand (43_rotates_bits.md R330 to R337). -/
theorem rotValue_eq (op : RotOp) (v : Byte) (cin : Bool) :
    rotValue op v cin = BitVec.ofNat 8 (rotArith op v.toNat cin.toNat).1 := by
  rw [← toNat_rotValue, BitVec.ofNat_toNat, BitVec.setWidth_eq]

/-- The new carry is the bit that leaves the byte, whatever carry came in (43_rotates_bits.md R330 to R337). -/
theorem rotCarry_eq (op : RotOp) (v : Byte) (n : Nat) : rotCarry op v = decide ((rotArith op v.toNat n).2 = 1) := by
  rw [← toNat_rotCarry]
  cases rotCarry op v <;> rfl

theorem rotResult_eq (op : RotOp) (v : Byte) (cin : Bool) :
    rotResult op v cin =
      (BitVec.ofNat 8 (rotArith op v.toNat cin.toNat).1,
        { z := decide (BitVec.ofNat 8 (rotArith op v.toNat cin.toNat).1 = 0#8), n := false, h := false
          c := decide ((rotArith op v.toNat cin.toNat).2 = 1) }) := by
  rw [← rotValue_eq, ← rotCarry_eq, rotResult]

theorem rotAccResult_eq (op : RotOp) (a : Byte) (cin : Bool) :
    rotAccResult op a cin =
      (BitVec.ofNat 8 (rotArith op a.toNat cin.toNat).1,
        { z := false, n := false, h := false, c := decide ((rotArith op a.toNat cin.toNat).2 = 1) }) := by
  rw [← rotValue_eq, ← rotCarry_eq, rotAccResult]

/-! ## Bit test, clear and set -/

/-- The mask of a bit is the bit's weight. -/
theorem toNat_mask (i : Index3) : (1#8 <<< i.toNat).toNat = 2 ^ i.toNat := by cases i <;> rfl

/-- A byte holds the weight of a bit once or not at all. -/
theorem toNat_and_mask (i : Index3) (v : Byte) :
    (v &&& 1#8 <<< i.toNat).toNat = 2 ^ i.toNat * (v.toNat / 2 ^ i.toNat % 2) := by
  rw [BitVec.toNat_and, toNat_mask, Nat.and_two_pow, Nat.toNat_testBit, Nat.mul_comm]

/-- Clearing the bits of a mask takes away the part of the byte inside it. -/
theorem toNat_and_not (v m : Byte) : (v &&& ~~~m).toNat = v.toNat - (v &&& m).toNat := by
  have hdisjoint : (v &&& ~~~m) &&& (v &&& m) = 0#8 := BitVec.eq_of_getElem_eq (by simp +contextual)
  have hparts : (v &&& ~~~m) ||| (v &&& m) = v := BitVec.eq_of_getElem_eq (by simp [← Bool.and_or_distrib_left])
  exact Nat.eq_sub_of_add_eq ((toNat_or_of_and_eq_zero hdisjoint).symm.trans (congrArg _ hparts))

/-- Setting the bits of a mask adds the part of the mask outside the byte. -/
theorem toNat_or_eq_add (v m : Byte) : (v ||| m).toNat = v.toNat + (m.toNat - (v &&& m).toNat) := by
  have hdisjoint : v &&& (m &&& ~~~v) = 0#8 := BitVec.eq_of_getElem_eq (by simp +contextual)
  have hparts : v ||| (m &&& ~~~v) = v ||| m := BitVec.eq_of_getElem_eq (by simp [Bool.or_and_distrib_left])
  rw [← hparts, toNat_or_of_and_eq_zero hdisjoint, toNat_and_not, BitVec.and_comm m v]

/-- `BIT b` tests the digit of weight `2 ^ b` (43_rotates_bits.md R338). -/
theorem bitFlags_eq (i : Index3) (v : Byte) (fl : Flags) :
    bitFlags i v fl = { z := decide (v.toNat / 2 ^ i.toNat % 2 = 0), n := false, h := true, c := fl.c } := by
  rw [← toNat_getLsbD, bitFlags]
  cases v.getLsbD i.toNat <;> rfl

/-- `RES b` takes the bit's weight away where the bit is set (43_rotates_bits.md R339). -/
theorem resValue_eq (i : Index3) (v : Byte) :
    resValue i v = BitVec.ofNat 8 (v.toNat - 2 ^ i.toNat * (v.toNat / 2 ^ i.toNat % 2)) := by
  rw [← toNat_and_mask, ← toNat_and_not, BitVec.ofNat_toNat, BitVec.setWidth_eq, resValue]

/-- `SET b` adds the bit's weight where the bit is clear (43_rotates_bits.md R340). -/
theorem setValue_eq (i : Index3) (v : Byte) :
    setValue i v = BitVec.ofNat 8 (v.toNat + 2 ^ i.toNat * (1 - v.toNat / 2 ^ i.toNat % 2)) := by
  rw [Nat.mul_sub, Nat.mul_one, ← toNat_and_mask, ← toNat_mask, ← toNat_or_eq_add, BitVec.ofNat_toNat, BitVec.setWidth_eq,
    setValue]

/-! ## Exact meanings -/

/-- Settles O29 by the encodings and `rotAccResult_eq`. -/
theorem accumulatorRotates : Obligations.AccumulatorRotates := by
  intro b1 b2 s result
  have hacc (op : RotOp) : opRotAcc op s = result op := by rw [opRotAcc, rotAccResult_eq]
  exact ⟨⟨.of_encode rfl rfl rfl, hacc .rlc⟩, ⟨.of_encode rfl rfl rfl, hacc .rrc⟩,
    ⟨.of_encode rfl rfl rfl, hacc .rl⟩, ⟨.of_encode rfl rfl rfl, hacc .rr⟩⟩

/-- Settles O30 by the encodings and `rotResult_eq`. -/
theorem rotatesAndShifts : Obligations.RotatesAndShifts := fun op b2 s =>
  ⟨fun r => ⟨encodes_rotReg b2 op r, by rw [exec_rotReg, opRotReg, rotResult_eq]⟩,
    ⟨encodes_rotMem b2 op, by simp only [exec_rotMem, opRotMem, rotResult_eq]⟩⟩

/-- Settles O31 by the encodings and the results as arithmetic on the bit's weight. -/
theorem bitOperations : Obligations.BitOperations := fun i b2 s =>
  ⟨fun r => ⟨encodes_bitReg b2 i r, by rw [exec_bitReg, opBitReg, bitFlags_eq]⟩,
    ⟨encodes_bitMem b2 i, by rw [exec_bitMem, opBitMem, bitFlags_eq]⟩,
    fun r => ⟨encodes_resReg b2 i r, by rw [exec_resReg, opResReg, resValue_eq]⟩,
    ⟨encodes_resMem b2 i, by rw [exec_resMem, opResMem, resValue_eq]⟩,
    fun r => ⟨encodes_setReg b2 i r, by rw [exec_setReg, opSetReg, setValue_eq]⟩,
    ⟨encodes_setMem b2 i, by rw [exec_setMem, opSetMem, setValue_eq]⟩⟩

end Sys2Proof.Machine
end

section
/-! PROOFS. The control transfers (44_control.md): their exact meanings, and their frames by the rules of `Frame` with
one more for each way of writing `PC`. -/

namespace Sys2Proof.Machine

/-! ## Exact meanings -/

/-- Settles O32 by the encodings and the operations of the forms; the conditions are read off the flags. -/
theorem jumps : Obligations.Jumps := fun b1 b2 s =>
  ⟨⟨.of_decode rfl rfl, rfl⟩,
    fun cc => ⟨encodes_jpCond b1 b2 cc, exec_jpCond cc (b2 ++ b1) s⟩,
    ⟨.of_encode rfl rfl rfl, rfl⟩,
    ⟨.of_decode rfl rfl, rfl⟩,
    fun cc => ⟨encodes_jrCond b1 b2 cc, exec_jrCond cc b1 s⟩,
    rfl, rfl, rfl, rfl⟩

/-- Settles O33 by the encodings and the operations of the forms. -/
theorem calls : Obligations.Calls := fun b1 b2 s =>
  ⟨⟨.of_decode rfl rfl, rfl⟩,
    fun cc => ⟨encodes_callCond b1 b2 cc, exec_callCond cc (b2 ++ b1) s⟩,
    fun y => ⟨encodes_rst b1 b2 y, by rw [exec_rst, opRst, Nat.mul_comm, callTo]⟩⟩

/-- Settles O34 by the encodings and the operations of the forms. -/
theorem returns : Obligations.Returns := fun b1 b2 s =>
  ⟨⟨.of_encode rfl rfl rfl, rfl⟩,
    fun cc => ⟨encodes_retCond b1 b2 cc, exec_retCond cc s⟩,
    ⟨.of_encode rfl rfl rfl, rfl⟩⟩

/-! ## Frames -/

theorem reg8_setPc (s : State) (v : Word) (q : Reg8) : (s.setPc v).reg8 q = s.reg8 q := by cases q <;> rfl

section
variable {s t u : State} {dst : List Reg8} {sp flags : Bool} {stored : List Word}

/-- `PC` is not framed, and no byte register shows it. -/
theorem Frame.setPc (v : Word) (h : Frame s t dst sp flags stored) : Frame s (t.setPc v) dst sp flags stored :=
  { h with regs := fun q hq => (reg8_setPc t v q).trans (h.regs q hq) }

theorem Frame.jumpRelative (e : Byte) (h : Frame s t dst sp flags stored) :
    Frame s (jumpRelative e t) dst sp flags stored :=
  .setPc _ h

/-- A call is a push, then a write of `PC`. -/
theorem Frame.callTo (target : Word) : Frame s (callTo target s) dst true flags (pushAddresses s) :=
  .setPc _ (.push16 _)

/-- A return moves `SP`, reads memory and writes `PC`. -/
theorem Frame.returnToPopped (h : Frame s t dst true flags stored) :
    Frame s (returnToPopped t) dst true flags stored :=
  .setPc _ (.setSp _ h)

/-- A conditional instruction has the frame that both its outcomes have. -/
theorem Frame.ite {c : Prop} [Decidable c] (ht : c → Frame s t dst sp flags stored)
    (hu : ¬c → Frame s u dst sp flags stored) : Frame s (if c then t else u) dst sp flags stored := by
  split
  case isTrue hc => exact ht hc
  case isFalse hc => exact hu hc

end

/-- Settles O41: a jump writes `PC` only, a call is a push and a return a pop; an untaken transfer is `Frame.refl`. -/
theorem controlFrame : Obligations.ControlFrame := fun s _ =>
  ⟨fun a => .of_exec (i := .jp_a16 a) rfl (.charge _ (.setPc _ .refl)),
    fun cc a => .of_exec (exec_jpCond cc a s) (.ite (fun _ => .charge _ (.setPc _ .refl)) fun _ => .charge _ .refl),
    .of_exec (i := .jp_HL) rfl (.charge _ (.setPc _ .refl)),
    fun e => .of_exec (i := .jr_e8 e) rfl (.charge _ (.jumpRelative _ .refl)),
    fun cc e =>
      .of_exec (exec_jrCond cc e s) (.ite (fun _ => .charge _ (.jumpRelative _ .refl)) fun _ => .charge _ .refl),
    fun a => .of_exec (i := .call_a16 a) rfl (.charge _ (.callTo _)),
    fun cc a hcc => .of_exec (exec_callCond cc a s) (if_pos hcc ▸ .charge _ (.callTo _)),
    fun cc a hcc => .of_exec (exec_callCond cc a s) (if_neg (Bool.eq_false_iff.1 hcc) ▸ .charge _ .refl),
    fun y => .of_exec (exec_rst y s) (.charge _ (.callTo _)),
    .of_exec (i := .ret) rfl (.charge _ (.returnToPopped .refl)),
    fun cc => .of_exec (exec_retCond cc s)
      (.ite (fun hcc => hcc ▸ .charge _ (.returnToPopped .refl)) fun _ => .charge _ .refl),
    .of_exec (i := .nop) rfl (.charge _ .refl)⟩

end Sys2Proof.Machine
end

section
/-! PROOFS. The system instructions (45_system.md): their exact meanings, the latch behind `EI`, and the byte 0xCB, whose
meaning by the fields of the sub-opcode is that of the instruction the decoder reads. -/

namespace Sys2Proof.Machine

/-! ## The interrupt enable -/

/-- `EI` sets the latch or the enable, by the configuration (45_system.md R393). -/
theorem exec_ei (s : State) :
    exec .ei s = .next (if s.cfg.eiDelay then { s with eiPending := true, cycles := s.cycles + 4 }
      else { s with ime := true, cycles := s.cycles + 4 }) := by
  show opEi s = _
  rw [opEi, apply_ite (State.charge · 4)]
  rfl

/-- The latch takes effect where it was set before the instruction and the instruction has not taken it back
(60_exceptions.md R500). -/
theorem armLatch_eq (arm : Bool) (s : State) :
    armLatch arm s = if s.cfg.eiDelay = true ∧ arm = true ∧ s.eiPending = true
      then { s with ime := true, eiPending := false } else s := by
  unfold armLatch
  exact if_congr (by simp only [Bool.and_eq_true, and_assoc]) rfl rfl

/-- Settles O35 by the encodings and the operations of the forms, with `exec_ei` and `armLatch_eq`. -/
theorem systemInstructions : Obligations.SystemInstructions := fun b1 b2 s =>
  ⟨⟨.of_encode rfl rfl rfl, rfl⟩,
    ⟨.of_encode rfl rfl rfl, rfl⟩,
    ⟨.of_encode rfl rfl rfl, rfl⟩,
    ⟨.of_encode rfl rfl rfl, exec_ei s⟩,
    fun arm => armLatch_eq arm s,
    fun _ hop => encodes_unknown b1 b2 hop,
    fun _ => rfl⟩

/-! ## The CB page -/

/-- The meaning by the fields of a CB-page byte is that of the instruction the decoder reads from it (45_system.md
R394). -/
theorem exec_decodeCb (sub : Byte) (s : State) : exec (decodeCb sub) s = cbPage sub s := by
  unfold decodeCb cbPage byOperand
  generalize fieldX sub = x, Reg8.ofIndex (fieldZ sub) = operand
  match x, operand with
  | 0, some r => exact exec_rotReg _ r s
  | 0, none => exact exec_rotMem _ s
  | 1, some r => exact exec_bitReg _ r s
  | 1, none => exact exec_bitMem _ s
  | 2, some r => exact exec_resReg _ r s
  | 2, none => exact exec_resMem _ s
  | _ + 3, some r => exact exec_setReg _ r s
  | _ + 3, none => exact exec_setMem _ s

/-- A CB-page instruction takes 8 cycles on a register; on `(HL)` it takes 12 where it only reads, else 16. -/
theorem cbPage_cycles {sub : Byte} {s t : State} (h : cbPage sub s = .next t) :
    t.cycles = s.cycles + 8 ∨ t.cycles = s.cycles + 12 ∨ t.cycles = s.cycles + 16 := by
  unfold cbPage at h
  generalize fieldX sub = x, Reg8.ofIndex (fieldZ sub) = operand at h
  match x, operand with
  | 0, some _ | 1, some _ | 2, some _ | _ + 3, some _ =>
    cases h
    exact .inl rfl
  | 1, none =>
    cases h
    exact .inr (.inl rfl)
  | 0, none | 2, none | _ + 3, none =>
    cases h
    exact .inr (.inr (congrArg (· + 16) (busWrite_cycles ..)))

/-- Settles O36: the meaning of `prefixCb` is `cbPage` by definition, which is that of the decoded instruction. -/
theorem prefixSelects : Obligations.PrefixSelects := by
  intro sub b2 s
  obtain ⟨t, ht, -⟩ := cbPage_built s (s.cfg.instrTable.cbRow sub)
  exact ⟨rfl, rfl, t, ht, (exec_decodeCb _ s).trans ht, cbPage_cycles ht⟩

end Sys2Proof.Machine
end

section
/-! PROOFS. The machine tick (60_exceptions.md R500 to R519): when it idles, when it dispatches and when it runs the
instruction at `PC`; what a dispatch saves and changes where the stack is in the work RAM. -/

namespace Sys2Proof.Machine

/-! ## The tick by its cases -/

section
variable {s : State}

theorem step_of_idles (hrom : s.store.romBanks ≠ 0) (h : s.idles = true) : step s = .next (idleTick s) := by
  unfold step tick
  rw [if_neg hrom, if_pos h]

theorem step_of_not_idles (hrom : s.store.romBanks ≠ 0) (h : s.idles = false) :
    step s = executePhase (readyToFetch s) := by
  unfold step tick
  rw [if_neg hrom, if_neg (Bool.eq_false_iff.1 h)]

theorem serviceInterrupts_of_not_dispatches (h : s.dispatches = false) : serviceInterrupts s = s :=
  if_neg (Bool.eq_false_iff.1 h)

theorem executePhase_of_exec {t : State} (h : exec (fetchInstr s) (fetched s) = .next t) :
    executePhase s = .next (advancePeripherals (armLatch s.eiPending t)) := by
  unfold executePhase
  rw [h]

theorem idles_of_not_wakes (hhalt : s.halted = true) (h : s.wakes = false) : s.idles = true := by
  unfold State.idles
  rw [hhalt, h]
  rfl

theorem not_idles_of_not_halted (h : s.halted = false) : s.idles = false := by
  unfold State.idles
  rw [h]
  rfl

theorem not_idles_of_wakes (h : s.wakes = true) : s.idles = false := by
  unfold State.idles
  rw [h, Bool.not_true, Bool.and_false]

/-- An idle tick only counts its cycles and advances the peripherals. -/
theorem idleTick_eq (s : State) : idleTick s = advancePeripherals { s with cycles := s.cfg.haltIdleCycles } :=
  congrArg (fun n => advancePeripherals (s.setCycles n)) (Nat.zero_add s.cfg.haltIdleCycles)

/-- A tick that wakes is the tick of the machine that was not halted (60_exceptions.md R512). -/
theorem step_of_wakes (h : s.wakes = true) : step s = step { s with halted := false } := by
  unfold step tick
  rw [if_neg (Bool.eq_false_iff.1 (not_idles_of_wakes h)),
    if_neg (Bool.eq_false_iff.1 (not_idles_of_not_halted (s := { s with halted := false }) rfl))]
  rfl

/-! ## The wake condition -/

/-- No bit is pending and enabled where none is pending. -/
theorem pendingEnabled_of_not_pending (h : s.ifReg = 0#5) : s.pendingEnabled = 0#5 := by
  unfold State.pendingEnabled
  rw [h, BitVec.zero_and]

theorem wakes_of_masked (h : s.cfg.haltWakeMasked = true) : s.wakes = decide (s.pendingEnabled ≠ 0#5) :=
  if_pos h

theorem wakes_of_not_masked (h : s.cfg.haltWakeMasked = false) : s.wakes = decide (s.ifReg ≠ 0#5) :=
  if_neg (Bool.eq_false_iff.1 h)

/-- With no bit pending the machine stays halted, under either parameter. -/
theorem not_wakes_of_not_pending (h : s.ifReg = 0#5) : s.wakes = false := by
  cases hmask : s.cfg.haltWakeMasked with
  | true => rw [wakes_of_masked hmask, pendingEnabled_of_not_pending h]; rfl
  | false => rw [wakes_of_not_masked hmask, h]; rfl

/-- An enabled pending bit wakes the machine, under either parameter. -/
theorem wakes_of_pendingEnabled (h : s.pendingEnabled ≠ 0#5) : s.wakes = true := by
  cases hmask : s.cfg.haltWakeMasked with
  | true => exact (wakes_of_masked hmask).trans (decide_eq_true h)
  | false =>
    exact (wakes_of_not_masked hmask).trans (decide_eq_true fun hif => h (pendingEnabled_of_not_pending hif))

end

/-- Settles O7: an idle tick where the wake condition fails, `step_of_wakes` where it holds. -/
theorem haltedTicks : Obligations.HaltedTicks := by
  refine ⟨fun s hrom hhalt hif => ?_, fun s _ hif hmask => ?_, fun s hhalt hpend hmask hrom => ?_,
    fun s _ hpend => step_of_wakes (wakes_of_pendingEnabled hpend), rfl, rfl⟩
  · rw [step_of_idles hrom (idles_of_not_wakes hhalt (not_wakes_of_not_pending hif)), idleTick_eq]
  · exact step_of_wakes ((wakes_of_not_masked hmask).trans (decide_eq_true hif))
  · have hwakes : s.wakes = false := (wakes_of_masked hmask).trans (decide_eq_false (not_not.2 hpend))
    rw [step_of_idles hrom (idles_of_not_wakes hhalt hwakes), idleTick_eq]

/-! ## A tick that fetches at `PC` -/

/-- A tick of a machine that is not halted and has no interrupt to take fetches from the state as it stands. -/
theorem readyToFetch_of_running {s : State} (hhalt : s.halted = false) (h : s.dispatches = false) :
    readyToFetch s = s.setCycles 0 := by
  have hrunning : (s.setCycles 0).setHalted false = s.setCycles 0 := by
    unfold State.setHalted State.setCycles
    rw [hhalt]
  unfold readyToFetch
  rw [hrunning, serviceInterrupts_of_not_dispatches (s := s.setCycles 0) h]

/-- Settles O5: every instruction answers, so the execute phase is the fetched one, then the latch and the peripherals;
in the table of `CFG_REF` the decoder reads that instruction from the three bytes at `PC`. -/
theorem stepRunsDecodedInstruction : Obligations.StepRunsDecodedInstruction := by
  have hstep (s : State) (hrom : s.store.romBanks ≠ 0) (hhalt : s.halted = false) (hdisp : s.dispatches = false) :
      ∃ t, exec (fetchInstr s) ((s.setCycles 0).setPc (s.regs.pc + BitVec.ofNat 16 (fetchLength s))) = .next t ∧
        step s = .next (advancePeripherals (armLatch s.eiPending t)) := by
    obtain ⟨t, ht, -⟩ := exec_built (fetched (s.setCycles 0)) (fetchInstr (s.setCycles 0))
    refine ⟨t, ht, ?_⟩
    rw [step_of_not_idles hrom (not_idles_of_not_halted hhalt), readyToFetch_of_running hhalt hdisp]
    exact executePhase_of_exec ht
  refine ⟨hstep, fun s i rest htable hrom hhalt hdisp hdecode => ?_⟩
  obtain ⟨hpos, hle⟩ := opcodeLength_bounds (busRead s s.regs.pc)
  rw [decode_cons hle] at hdecode
  cases hdecode
  have hinstr : fetchInstr s = decodeBytes (busRead s s.regs.pc) (busRead s (s.regs.pc + 1#16))
      (busRead s (s.regs.pc + 2#16)) := by
    unfold fetchInstr
    rw [htable, InstrTable.instr_ref]
  have hlength : fetchLength s = opcodeLength (busRead s s.regs.pc) := by
    unfold fetchLength
    rw [htable, InstrTable.length_ref]
  rw [List.length_drop, List.length_cons, List.length_cons, List.length_cons, List.length_nil, Nat.sub_sub_self hle,
    ← hlength]
  exact hinstr ▸ hstep s hrom hhalt hdisp

/-! ## A tick that dispatches -/

/-- The lowest-numbered set bit (60_exceptions.md R513). -/
theorem lowestSet_eq {v : BitVec 5} {n : Nat} (hn : n < 5) (hset : v.getLsbD n = true)
    (hlow : ∀ m, m < n → v.getLsbD m = false) : lowestSet v = n := by
  have hclear {m : Nat} (hm : m < n) : ¬v.getLsbD m = true := Bool.eq_false_iff.1 (hlow m hm)
  unfold lowestSet
  interval_cases n
  · rw [if_pos hset]
  · rw [if_neg (hclear (by decide)), if_pos hset]
  · rw [if_neg (hclear (by decide)), if_neg (hclear (by decide)), if_pos hset]
  · rw [if_neg (hclear (by decide)), if_neg (hclear (by decide)), if_neg (hclear (by decide)), if_pos hset]
  · rw [if_neg (hclear (by decide)), if_neg (hclear (by decide)), if_neg (hclear (by decide)),
      if_neg (hclear (by decide))]

theorem pendingEnabled_ne_zero {s : State} {n : Nat} (h : (s.ifReg &&& s.ieReg).getLsbD n = true) :
    s.pendingEnabled ≠ 0#5 := by
  intro hzero
  unfold State.pendingEnabled at hzero
  rw [hzero, BitVec.getLsbD_zero] at h
  cases h

/-- The service phase takes the lowest-numbered bit that is pending and enabled (60_exceptions.md R511). -/
theorem serviceInterrupts_of_lowest {s : State} {n : Nat} (hime : s.ime = true) (hn : n < 5)
    (hset : (s.ifReg &&& s.ieReg).getLsbD n = true) (hlow : ∀ m, m < n → (s.ifReg &&& s.ieReg).getLsbD m = false) :
    serviceInterrupts s = dispatchTo n s := by
  have hdisp : s.dispatches = true := by
    unfold State.dispatches
    rw [hime, decide_eq_true (pendingEnabled_ne_zero hset)]
    rfl
  unfold serviceInterrupts
  rw [if_pos hdisp]
  exact congrArg (dispatchTo · s) (lowestSet_eq hn hset hlow)

/-- A dispatch in one equation: a push counts no cycle (60_exceptions.md R511). -/
theorem dispatchTo_eq (n : Nat) (s : State) :
    dispatchTo n s =
      ((push16 s.regs.pc ((s.clearPending n).setIme false)).setPc (s.cfg.intVector n)).setCycles
        (s.cycles + s.cfg.intDispatchCycles) := by
  have hcycles (t : State) (v : Word) : (push16 v t).cycles = t.cycles := by simp [push16_eq]
  exact congrArg (fun k => State.setCycles _ (k + s.cfg.intDispatchCycles)) (hcycles _ _)

/-- Settles O6: an enabled pending bit wakes the machine, and the service phase takes it. -/
theorem dispatchPrecedesFetch : Obligations.DispatchPrecedesFetch := by
  refine ⟨fun s n hrom hime hn hset hlow => ?_, by decide, rfl⟩
  have hawake := not_idles_of_wakes (wakes_of_pendingEnabled (pendingEnabled_ne_zero hset))
  have hready : readyToFetch s = dispatchTo n ((s.setCycles 0).setHalted false) :=
    serviceInterrupts_of_lowest (s := (s.setCycles 0).setHalted false) hime hn hset hlow
  rw [step_of_not_idles hrom hawake, hready, dispatchTo_eq, State.setHalted_cycles, State.setCycles_cycles, Nat.zero_add]
  rfl

/-! ## What a dispatch saves and changes -/

/-- A write to the work RAM of `CFG_REF` changes the arrays of the bus only. -/
theorem busWrite_workRam {s : State} (hm : s.cfg.memoryMap = MemoryMap.ref) {a : Word} (h1 : 0xC000 ≤ a.toNat)
    (h2 : a.toNat ≤ 0xDFFF) (v : Byte) : ∃ st, busWrite s a v = s.setStore st := by
  rcases Nat.lt_or_ge a.toNat 0xD000 with h | h
  · exact ⟨_, (busAccess_of_region (region_ref_wramFixed hm h1 (by omega)) v).2⟩
  · exact ⟨_, (busAccess_of_region (region_ref_wramSwitch hm h h2) v).2⟩

theorem push16_regs (v : Word) (s : State) : (push16 v s).regs = { s.regs with sp := s.regs.sp - 2#16 } := by
  simp [push16_eq, State.setSp]

section
variable {s : State} (hm : s.cfg.memoryMap = MemoryMap.ref) (h1 : 0xC002 ≤ s.regs.sp.toNat)
  (h2 : s.regs.sp.toNat ≤ 0xE000)
include hm h1 h2

/-- A push to the work RAM changes neither the latch, the pending and the enable bits nor the bank state and the
synthesizer. -/
theorem push16_workRam (v : Word) :
    (push16 v s).ime = s.ime ∧ (push16 v s).ifReg = s.ifReg ∧ (push16 v s).ieReg = s.ieReg ∧
    (push16 v s).bank = s.bank ∧ (push16 v s).spu = s.spu := by
  obtain ⟨st, hst⟩ := busWrite_workRam (s := s.setSp (s.regs.sp - 1#16)) (a := s.regs.sp - 1#16) hm (by bv_omega)
    (by bv_omega) (hiByte v)
  obtain ⟨st', hst'⟩ := busWrite_workRam (s := (s.setSp (s.regs.sp - 2#16)).setStore st) (a := s.regs.sp - 2#16) hm
    (by bv_omega) (by bv_omega) (loByte v)
  have hpush : push16 v s = (s.setSp (s.regs.sp - 2#16)).setStore st' := by
    rw [push16_eq, hst]
    exact hst'
  rw [hpush]
  exact ⟨rfl, rfl, rfl, rfl, rfl⟩

/-- The bytes of a word pushed to the work RAM, the high byte above the low one. -/
theorem busRead_push16 (hs : s.Inv) (v : Word) :
    busRead (push16 v s) (s.regs.sp - 1#16) = hiByte v ∧ busRead (push16 v s) (s.regs.sp - 2#16) = loByte v := by
  have hword := popped_push16 hs hm h1 h2 v
  have haddr : s.regs.sp - 2#16 + 1#16 = s.regs.sp - 1#16 := by bv_omega
  unfold popped busRead16 at hword
  rw [push16_regs, haddr] at hword
  exact ⟨(State.hiByte_append _ _).symm.trans (congrArg hiByte hword),
    (State.loByte_append _ _).symm.trans (congrArg loByte hword)⟩

end

/-- A push is seen at the addresses its two stores reach only. -/
theorem busRead_push16_ne (s : State) (v : Word) {b : Word} (hhigh : reaches s.cfg (s.regs.sp - 1#16) b = false)
    (hlow : reaches s.cfg (s.regs.sp - 2#16) b = false) : busRead (push16 v s) b = busRead s b := by
  have hframe : Frame s (push16 v s) [] true false (pushAddresses s) := .push16 v
  refine hframe.memory b fun a ha => ?_
  rcases List.mem_pair.1 ha with rfl | rfl
  · exact hhigh
  · exact hlow

/-- Only the register `IF` shows the pending bits. -/
theorem busRead_setIf {s : State} (hm : s.cfg.memoryMap = MemoryMap.ref) {b : Word} (hb : b ≠ 0xFF0F#16)
    (f : BitVec 5) : busRead (s.setIf f) b = busRead s b := by
  have hnames := region_names s.cfg b
  unfold busRead
  rw [State.setIf_cfg]
  generalize region s.cfg b = p at hnames
  cases p
  case io o =>
    have hat := ioReg_at s.cfg o
    show ioRead (s.setIf f) o (ioReg s.cfg o) = ioRead s o (ioReg s.cfg o)
    generalize ioReg s.cfg o = r at hat
    cases r
    case intFlag =>
      obtain rfl : o = 0x0F := hat
      rw [hm] at hnames
      obtain ⟨-, hoffset⟩ := hnames
      exact absurd (BitVec.eq_of_toNat_eq (eq_of_unecho_ref hoffset (by decide))) hb
    all_goals rfl
  all_goals rfl

/-- Without the latch, or without a bit that is pending and enabled, nothing is dispatched (60_exceptions.md R511). -/
theorem not_dispatches {s : State}
    (h : s.ime = false ∨ ∀ n, n < 5 → s.ifReg.getLsbD n = false ∨ s.ieReg.getLsbD n = false) :
    s.dispatches = false := by
  unfold State.dispatches
  rcases h with hime | hbits
  · rw [hime, Bool.false_and]
  · have hnone : s.pendingEnabled = 0#5 := BitVec.eq_of_getLsbD_eq fun n hn => by
      unfold State.pendingEnabled
      rw [BitVec.getLsbD_and, BitVec.getLsbD_zero, Bool.and_eq_false_iff]
      exact hbits n hn
    rw [hnone]
    exact Bool.and_false _

/-- Settles O49: a dispatch is a push from the state with the pending bit and the latch cleared, then `PC` and the
cycles; the push changes `SP` and the work RAM only. -/
theorem dispatchSavesPc : Obligations.DispatchSavesPc := by
  refine ⟨fun s h => serviceInterrupts_of_not_dispatches (not_dispatches h),
    fun s n hs hm h1 h2 hime hn hset hlow => ?_, fun s => ⟨rfl, rfl⟩⟩
  have hcleared : ((s.clearPending n).setIme false).Inv := { hs with }
  obtain ⟨hhigh, hlowByte⟩ := busRead_push16 (s := (s.clearPending n).setIme false) hm h1 h2 hcleared s.regs.pc
  obtain ⟨hime', hif, hie, hbank, hspu⟩ := push16_workRam (s := (s.clearPending n).setIme false) hm h1 h2 s.regs.pc
  rw [serviceInterrupts_of_lowest hime hn hset hlow, dispatchTo_eq]
  simp only [busRead_setCycles, busRead_setPc]
  refine ⟨hhigh, hlowByte, congrArg (fun g : Regs => { g with pc := s.cfg.intVector n }) (push16_regs _ _), hime', hif,
    hie, hbank, rfl, hspu, fun b hb1 hb2 hb => ?_⟩
  calc busRead (push16 s.regs.pc ((s.clearPending n).setIme false)) b
      = busRead ((s.clearPending n).setIme false) b := busRead_push16_ne _ _ hb1 hb2
    _ = busRead (s.clearPending n) b := busRead_setIme ..
    _ = busRead s b := busRead_setIf hm hb _

end Sys2Proof.Machine
end

section
/-! PROOFS. Phases 4 and 5 of the tick (60_exceptions.md R500, R502, R503): each component moves itself and adds pending
bits, and what the others do makes no difference to it. -/

namespace Sys2Proof.Machine

/-! ## Adding pending bits -/

/-- `s` with the pending bits `f` set too. -/
def State.addPending (s : State) (f : BitVec 5) : State := s.setIf (s.ifReg ||| f)

theorem State.addPending_zero (s : State) : s.addPending 0#5 = s := congrArg s.setIf BitVec.or_zero

theorem State.raise_eq_addPending (s : State) (n : Nat) : s.raise n = s.addPending (1#5 <<< n) := rfl

theorem State.addPending_addPending (s : State) (f g : BitVec 5) :
    (s.addPending f).addPending g = s.addPending (f ||| g) :=
  congrArg s.setIf (BitVec.or_assoc ..)

theorem State.addPending_comm (s : State) (f g : BitVec 5) :
    (s.addPending f).addPending g = (s.addPending g).addPending f := by
  rw [addPending_addPending, addPending_addPending, BitVec.or_comm]

/-! ## A component moves itself and adds pending bits -/

/-- `t` is `s` with one component, the one `put` replaces, moved and pending bits added. -/
def Moves {α : Type} (put : State → α → State) (s t : State) : Prop := ∃ x f, t = (put s x).addPending f

/-- The timer's cycle. -/
theorem moves_timerCycle (s : State) : Moves State.setTimer s (timerCycle s) := by
  unfold timerCycle
  dsimp only
  split
  · exact ⟨_, _, rfl⟩
  · exact ⟨_, 0#5, (State.addPending_zero _).symm⟩

theorem moves_iterate_timerCycle (n : Nat) (s : State) : Moves State.setTimer s (timerCycle^[n] s) := by
  induction n with
  | zero => exact ⟨s.timer, 0#5, (State.addPending_zero s).symm⟩
  | succ n ih =>
    obtain ⟨x, f, hn⟩ := ih
    obtain ⟨y, g, hnext⟩ := moves_timerCycle (timerCycle^[n] s)
    rw [Function.iterate_succ_apply', hnext, hn]
    exact ⟨y, f ||| g, State.addPending_addPending (s.setTimer y) f g⟩

namespace Moves

section
variable {s t u : State}

theorem refl : Moves State.setPpu s s := ⟨s.ppu, 0#5, (State.addPending_zero s).symm⟩

theorem setPpu (p : Ppu) (h : Moves State.setPpu s t) : Moves State.setPpu s (t.setPpu p) := by
  obtain ⟨_, f, rfl⟩ := h
  exact ⟨p, f, rfl⟩

theorem raise (n : Nat) (h : Moves State.setPpu s t) : Moves State.setPpu s (t.raise n) := by
  obtain ⟨p, f, rfl⟩ := h
  exact ⟨p, f ||| 1#5 <<< n, State.addPending_addPending (s.setPpu p) f _⟩

theorem ite {c : Prop} [Decidable c] (ht : Moves State.setPpu s t) (hu : Moves State.setPpu s u) :
    Moves State.setPpu s (if c then t else u) := by
  split
  · exact ht
  · exact hu

theorem enterMode (m : PpuMode) (h : Moves State.setPpu s t) : Moves State.setPpu s (enterMode m t) :=
  .ite (.raise _ (.setPpu _ h)) (.setPpu _ h)

theorem setLy (v : Byte) (h : Moves State.setPpu s t) : Moves State.setPpu s (setLy v t) :=
  .ite (.raise _ (.setPpu _ h)) (.setPpu _ h)

theorem renderCurrentLine (h : Moves State.setPpu s t) : Moves State.setPpu s (renderCurrentLine t) :=
  .ite (.setPpu _ h) h

theorem endHblank (h : Moves State.setPpu s t) : Moves State.setPpu s (endHblank t) :=
  .ite (.raise _ (.enterMode _ (.setLy _ h))) (.enterMode _ (.setLy _ h))

theorem endVblankLine (h : Moves State.setPpu s t) : Moves State.setPpu s (endVblankLine t) :=
  .ite (.enterMode _ (.setLy _ (.setPpu _ h))) (.setLy _ (.setPpu _ h))

/-- The pixel pipeline's cycle. -/
theorem ppuCycle (h : Moves State.setPpu s t) : Moves State.setPpu s (ppuCycle t) := by
  have hdot : Moves State.setPpu s (t.setPpu { t.ppu with dot := t.ppu.dot + 1 }) := .setPpu _ h
  unfold Machine.ppuCycle
  refine .ite ?_ h
  cases t.ppu.mode with
  | oamScan => exact .ite (.enterMode _ hdot) hdot
  | pixelTransfer => exact .ite (.enterMode _ (.renderCurrentLine hdot)) hdot
  | hblank => exact .ite (.endHblank hdot) hdot
  | vblank => exact .ite (.endVblankLine hdot) hdot

theorem iterate_ppuCycle (n : Nat) (s : State) : Moves State.setPpu s (Machine.ppuCycle^[n] s) := by
  induction n with
  | zero => exact .refl
  | succ n ih =>
    rw [Function.iterate_succ_apply']
    exact .ppuCycle ih

end

end Moves

/-- The synthesizer's phase. -/
theorem moves_spuStep (s : State) : Moves State.setSpu s (spuStep s) := by
  unfold spuStep
  dsimp only
  split
  · split
    · exact ⟨_, _, rfl⟩
    · exact ⟨_, 0#5, (State.addPending_zero _).symm⟩
  · exact ⟨_, 0#5, (State.addPending_zero _).symm⟩

theorem moves_spuPhase (s : State) : Moves State.setSpu s (spuPhase s) := by
  unfold spuPhase
  split
  · obtain ⟨u, f, h⟩ := moves_spuStep (s.setSpu { s.spu with phase := 0 })
    exact ⟨u, f, h⟩
  · exact ⟨_, 0#5, (State.addPending_zero _).symm⟩

/-! ## What the others do makes no difference -/

/-- An update `g` that a component, read by `get` and replaced by `put`, neither sees nor disturbs: `g` leaves alone what
the component's rules read, and commutes with what they do. -/
structure Bystander {α : Type} (get : State → α) (put : State → α → State) (g : State → State) : Prop where
  cfg : ∀ s, (g s).cfg = s.cfg
  store : ∀ s, (g s).store = s.store
  part : ∀ s, get (g s) = get s
  put : ∀ s x, put (g s) x = g (put s x)
  raise : ∀ s n, (g s).raise n = g (s.raise n)

theorem bystander_of_ppu (p : Ppu) (f : BitVec 5) :
    Bystander State.timer State.setTimer fun s => (s.setPpu p).addPending f :=
  ⟨fun _ => rfl, fun _ => rfl, fun _ => rfl, fun _ _ => rfl, fun s _ => (s.setPpu p).addPending_comm f _⟩

theorem bystander_of_timer (t : Timer) (f : BitVec 5) :
    Bystander State.ppu State.setPpu fun s => (s.setTimer t).addPending f :=
  ⟨fun _ => rfl, fun _ => rfl, fun _ => rfl, fun _ _ => rfl, fun s _ => (s.setTimer t).addPending_comm f _⟩

theorem bystander_of_timer_ppu (t : Timer) (p : Ppu) (f : BitVec 5) :
    Bystander State.spu State.setSpu fun s => ((s.setTimer t).setPpu p).addPending f :=
  ⟨fun _ => rfl, fun _ => rfl, fun _ => rfl, fun _ _ => rfl,
    fun s _ => ((s.setTimer t).setPpu p).addPending_comm f _⟩

namespace Bystander

variable {g : State → State}

/-- The timer moves as if the bystander stood still. -/
theorem timerCycle (hg : Bystander State.timer State.setTimer g) (s : State) : timerCycle (g s) = g (timerCycle s) := by
  unfold Machine.timerCycle
  simp only [apply_ite g, hg.part, hg.cfg, hg.put, hg.raise]

section
variable (hg : Bystander State.ppu State.setPpu g)
include hg

theorem enterMode (m : PpuMode) (s : State) : enterMode m (g s) = g (enterMode m s) := by
  unfold Machine.enterMode
  simp only [apply_ite g, hg.part, hg.put, hg.raise]

theorem setLy (v : Byte) (s : State) : setLy v (g s) = g (setLy v s) := by
  unfold Machine.setLy
  simp only [apply_ite g, hg.part, hg.put, hg.raise]

theorem renderCurrentLine (s : State) : renderCurrentLine (g s) = g (renderCurrentLine s) := by
  unfold Machine.renderCurrentLine
  simp only [apply_ite g, hg.cfg, hg.part, hg.store, hg.put]

theorem endHblank (s : State) : endHblank (g s) = g (endHblank s) := by
  unfold Machine.endHblank
  simp only [apply_ite g, hg.part, hg.setLy, hg.enterMode, hg.raise]

theorem endVblankLine (s : State) : endVblankLine (g s) = g (endVblankLine s) := by
  unfold Machine.endVblankLine
  simp only [apply_ite g, hg.part, hg.put, hg.setLy, hg.enterMode]

/-- The pixel pipeline moves as if the bystander stood still. -/
theorem ppuCycle (s : State) : ppuCycle (g s) = g (ppuCycle s) := by
  unfold Machine.ppuCycle
  simp only [apply_ite g, hg.part, hg.cfg, hg.put]
  cases s.ppu.mode with
  | oamScan => simp only [apply_ite g, hg.enterMode]
  | pixelTransfer => simp only [apply_ite g, hg.renderCurrentLine, hg.enterMode]
  | hblank => simp only [apply_ite g, hg.endHblank]
  | vblank => simp only [apply_ite g, hg.endVblankLine]

theorem iterate_ppuCycle (n : Nat) (s : State) : Machine.ppuCycle^[n] (g s) = g (Machine.ppuCycle^[n] s) :=
  Function.Commute.iterate_left (f := Machine.ppuCycle) (g := g) hg.ppuCycle n s

end

section
variable (hg : Bystander State.spu State.setSpu g)
include hg

theorem spuStep (s : State) : spuStep (g s) = g (spuStep s) := by
  unfold Machine.spuStep
  simp only [hg.part, hg.cfg, hg.put]
  cases s.cfg.spuIrqLine with
  | none => rfl
  | some n => simp only [apply_ite g, hg.raise]

/-- The synthesizer moves as if the bystander stood still. -/
theorem spuPhase (s : State) : spuPhase (g s) = g (spuPhase s) := by
  unfold Machine.spuPhase
  simp only [apply_ite g, hg.part, hg.cfg, hg.put, hg.spuStep]

end

end Bystander

/-! ## Phases 4 and 5 -/

theorem peripheralCycles_eq (n : Nat) (s : State) :
    peripheralCycles n s = (fun u => ppuCycle (timerCycle u))^[n] s := by
  induction n generalizing s with
  | zero => rfl
  | succ n ih => exact ih _

/-- A cycle of the timer and one of the pixel pipeline come to the same in either order. -/
theorem ppuCycle_commute_timerCycle : Function.Commute ppuCycle timerCycle := by
  intro s
  obtain ⟨p, f, hppu⟩ := Moves.ppuCycle (.refl (s := s))
  obtain ⟨t, g, htimer⟩ := moves_timerCycle s
  calc ppuCycle (timerCycle s)
      = ((ppuCycle s).setTimer t).addPending g := by rw [htimer]; exact (bystander_of_timer t g).ppuCycle s
    _ = ((timerCycle s).setPpu p).addPending f := by
      rw [hppu, htimer]
      exact ((s.setTimer t).setPpu p).addPending_comm f g
    _ = timerCycle (ppuCycle s) := by rw [hppu]; exact ((bystander_of_ppu p f).timerCycle s).symm

/-- The cycles of the two, in turn, are the timer's cycles and then the pixel pipeline's. -/
theorem peripheralCycles_eq_comp (n : Nat) (s : State) :
    peripheralCycles n s = ppuCycle^[n] (timerCycle^[n] s) :=
  (peripheralCycles_eq n s).trans (congrFun (ppuCycle_commute_timerCycle.comp_iterate n) s)

/-- Phases 4 and 5 by component: each is where its own cycles alone take it. -/
theorem advancePeripherals_eq (s : State) :
    ∃ f g h, (timerCycle^[s.cycles] s).ifReg = s.ifReg ||| f ∧ (ppuCycle^[s.cycles] s).ifReg = s.ifReg ||| g ∧
      (spuPhase s).ifReg = s.ifReg ||| h ∧
      advancePeripherals s = { s with
        timer := (timerCycle^[s.cycles] s).timer
        ppu := (ppuCycle^[s.cycles] s).ppu
        spu := (spuPhase s).spu
        ifReg := s.ifReg ||| f ||| g ||| h
        freeIndex := s.freeIndex + 1 } := by
  obtain ⟨t, f, htimer⟩ := moves_iterate_timerCycle s.cycles s
  obtain ⟨p, g, hppu⟩ := Moves.iterate_ppuCycle s.cycles s
  obtain ⟨u, h, hspu⟩ := moves_spuPhase s
  refine ⟨f, g, h, by rw [htimer]; rfl, by rw [hppu]; rfl, by rw [hspu]; rfl, ?_⟩
  have hcycles : peripheralCycles s.cycles s = ((s.setTimer t).setPpu p).addPending (g ||| f) := by
    rw [peripheralCycles_eq_comp, htimer]
    refine ((bystander_of_timer t f).iterate_ppuCycle s.cycles s).trans ?_
    rw [hppu]
    exact ((s.setTimer t).setPpu p).addPending_addPending g f
  unfold advancePeripherals
  rw [hcycles, (bystander_of_timer_ppu t p (g ||| f)).spuPhase s, htimer, hppu, hspu]
  have hpending : s.ifReg ||| h ||| (g ||| f) = s.ifReg ||| f ||| g ||| h := by ac_rfl
  exact congrArg (fun i => State.nextFree (((s.setSpu u).setTimer t |>.setPpu p).setIf i)) hpending

/-- Settles O11: each clause reads off how a component moves, or phases 4 and 5 by component. -/
theorem peripheralsKeepCpu : Obligations.PeripheralsKeepCpu := by
  refine ⟨fun s => ?_, fun s => ⟨fun h => if_pos h, fun h => if_neg h⟩, rfl, fun s => ⟨?_, ?_, ?_⟩, fun s => ?_, fun s => ?_⟩
  · obtain ⟨f, g, h, -, -, -, heq⟩ := advancePeripherals_eq s
    have hfree : (spuPhase (peripheralCycles s.cycles s)).freeIndex + 1 = s.freeIndex + 1 :=
      congrArg State.freeIndex heq
    rw [← peripheralCycles_eq, ← hfree]
    rfl
  · obtain ⟨t, f, h⟩ := moves_timerCycle s
    rw [h]
    rfl
  · obtain ⟨p, f, h⟩ := Moves.ppuCycle (.refl (s := s))
    rw [h]
    rfl
  · obtain ⟨u, f, h⟩ := moves_spuPhase s
    rw [h]
    rfl
  · obtain ⟨f, g, h, htimer, hppu, hspu, heq⟩ := advancePeripherals_eq s
    rw [heq, htimer, hppu, hspu]
    refine ⟨rfl, rfl, rfl, ?_⟩
    show s.ifReg ||| f ||| g ||| h = _
    ac_rfl
  · obtain ⟨f, g, h, -, -, -, heq⟩ := advancePeripherals_eq s
    rw [heq]
    exact ⟨rfl, rfl, rfl, rfl, rfl, rfl, rfl, rfl, rfl, rfl, fun n hn => by simp [hn]⟩

end Sys2Proof.Machine
end

section
/-! PROOFS. The timer (60_exceptions.md R540 to R545): one cycle of the divider and one of the gated counter, and what
both have come to after any number of cycles. -/

namespace Sys2Proof.Machine

/-! ## The divider -/

/-- One cycle of the divider after `x` others: `divSub` counts them modulo the period, `div` the periods modulo 256. -/
theorem Timer.stepDivider_counts {c : Config} {t : Timer} {x d : Nat} (hpos : 0 < c.divPeriod)
    (hsub : t.divSub = x % c.divPeriod) (hdiv : t.div.toNat = (d + x / c.divPeriod) % 256) :
    (t.stepDivider c).divSub = (x + 1) % c.divPeriod ∧
    (t.stepDivider c).div.toNat = (d + (x + 1) / c.divPeriod) % 256 := by
  have hx := Nat.mod_add_div x c.divPeriod
  have hlt := Nat.mod_lt x hpos
  unfold Timer.stepDivider
  by_cases hwrap : t.divSub + 1 = c.divPeriod
  · obtain ⟨hquot, hrem⟩ : (x + 1) / c.divPeriod = x / c.divPeriod + 1 ∧ (x + 1) % c.divPeriod = 0 :=
      (Nat.div_mod_unique hpos).2 ⟨by rw [Nat.mul_add_one]; omega, hpos⟩
    rw [if_pos hwrap, hquot, hrem]
    exact ⟨rfl, by rw [BitVec.toNat_add, hdiv]; exact Nat.mod_add_mod ..⟩
  · obtain ⟨hquot, hrem⟩ : (x + 1) / c.divPeriod = x / c.divPeriod ∧ (x + 1) % c.divPeriod = x % c.divPeriod + 1 :=
      (Nat.div_mod_unique hpos).2 ⟨by omega, by omega⟩
    rw [if_neg hwrap, hquot, hrem]
    exact ⟨congrArg (· + 1) hsub, hdiv⟩

/-- A cycle of the divider leaves the gated counter alone. -/
theorem Timer.stepDivider_eq (c : Config) (t : Timer) :
    ∃ d k, t.stepDivider c = { t with div := d, divSub := k } := by
  unfold Timer.stepDivider
  split
  · exact ⟨_, _, rfl⟩
  · exact ⟨_, t.divSub + 1, rfl⟩

/-- A cycle of the gated counter leaves the divider alone. -/
theorem Timer.stepCounter_divider (c : Config) (t : Timer) :
    (t.stepCounter c).div = t.div ∧ (t.stepCounter c).divSub = t.divSub := by
  unfold Timer.stepCounter
  split
  · split <;> exact ⟨rfl, rfl⟩
  · exact ⟨rfl, rfl⟩

/-- The divider after `n` cycles (60_exceptions.md R541, R542). -/
theorem divider_after (n : Nat) (s : State) (h : s.timer.divSub < s.cfg.divPeriod) :
    (timerCycle^[n] s).cfg = s.cfg ∧
    (timerCycle^[n] s).timer.divSub = (s.timer.divSub + n) % s.cfg.divPeriod ∧
    (timerCycle^[n] s).timer.div.toNat = (s.timer.div.toNat + (s.timer.divSub + n) / s.cfg.divPeriod) % 256 := by
  induction n with
  | zero =>
    refine ⟨rfl, (Nat.mod_eq_of_lt h).symm, ?_⟩
    rw [Nat.add_zero, Nat.div_eq_of_lt h, Nat.add_zero]
    exact (Nat.mod_eq_of_lt s.timer.div.isLt).symm
  | succ n ih =>
    obtain ⟨hcfg, hsub, hdiv⟩ := ih
    obtain ⟨f, hcycle⟩ := timerCycle_eq (timerCycle^[n] s)
    obtain ⟨hdivKept, hsubKept⟩ := Timer.stepCounter_divider s.cfg ((timerCycle^[n] s).timer.stepDivider s.cfg)
    rw [Function.iterate_succ_apply', hcycle, hcfg]
    dsimp only
    rw [hdivKept, hsubKept]
    exact ⟨rfl, Timer.stepDivider_counts (by omega) hsub hdiv⟩

/-! ## The gated counter -/

/-- Stopped, the counter takes no part in a cycle. -/
theorem timerCycle_of_stopped {s : State} (h : s.timer.tac.getLsbD 2 = false) :
    ∃ d k, timerCycle s = { s with timer := { s.timer with div := d, divSub := k } } := by
  obtain ⟨d, k, hdivider⟩ := Timer.stepDivider_eq s.cfg s.timer
  refine ⟨d, k, ?_⟩
  unfold timerCycle Timer.overflows Timer.stepCounter
  simp only [hdivider, h, State.setTimer, Bool.false_and, Bool.false_eq_true, if_false]

/-- Running and short of the period, the prescaler counts the cycle. -/
theorem timerCycle_of_lt_period {s : State} (hrun : s.timer.tac.getLsbD 2 = true)
    (h : s.timer.timaSub + 1 < timaPeriod s.cfg s.timer.tac) :
    ∃ d k, timerCycle s =
      { s with timer := { s.timer with div := d, divSub := k, timaSub := s.timer.timaSub + 1 } } := by
  obtain ⟨d, k, hdivider⟩ := Timer.stepDivider_eq s.cfg s.timer
  refine ⟨d, k, ?_⟩
  unfold timerCycle Timer.overflows Timer.stepCounter
  simp [hdivider, hrun, Nat.not_le.2 h, State.setTimer]

/-- Running and at the period, the counter moves; its overflow reloads it and raises pending bit 2. -/
theorem timerCycle_of_period_le {s : State} (hrun : s.timer.tac.getLsbD 2 = true)
    (h : timaPeriod s.cfg s.timer.tac ≤ s.timer.timaSub + 1) :
    ∃ d k, timerCycle s = { s with
      timer := { s.timer with
        div := d, divSub := k, timaSub := 0
        tima := if s.timer.tima = 0xFF#8 then s.timer.tma else s.timer.tima + 1#8 }
      ifReg := if s.timer.tima = 0xFF#8 then s.ifReg ||| 0b00100#5 else s.ifReg } := by
  obtain ⟨d, k, hdivider⟩ := Timer.stepDivider_eq s.cfg s.timer
  refine ⟨d, k, ?_⟩
  unfold timerCycle Timer.overflows Timer.stepCounter
  by_cases hover : s.timer.tima = 0xFF#8 <;> simp [hdivider, hrun, h, hover, State.setTimer, State.raise, State.setIf]

theorem iterate_timerCycle_of_stopped (n : Nat) {s : State} (h : s.timer.tac.getLsbD 2 = false) :
    ∃ d k, timerCycle^[n] s = { s with timer := { s.timer with div := d, divSub := k } } := by
  induction n with
  | zero => exact ⟨s.timer.div, s.timer.divSub, rfl⟩
  | succ n ih =>
    obtain ⟨d, k, hn⟩ := ih
    rw [Function.iterate_succ_apply', hn]
    exact timerCycle_of_stopped h

/-- Until the prescaler reaches the period it counts the cycles, and nothing else of the counter moves. -/
theorem iterate_timerCycle_of_lt_period {n : Nat} {s : State} (hrun : s.timer.tac.getLsbD 2 = true)
    (h : n = 0 ∨ s.timer.timaSub + n < timaPeriod s.cfg s.timer.tac) :
    ∃ d k, timerCycle^[n] s =
      { s with timer := { s.timer with div := d, divSub := k, timaSub := s.timer.timaSub + n } } := by
  induction n with
  | zero => exact ⟨s.timer.div, s.timer.divSub, rfl⟩
  | succ n ih =>
    have hlt : s.timer.timaSub + n + 1 < timaPeriod s.cfg s.timer.tac := h.resolve_left (Nat.succ_ne_zero n)
    obtain ⟨d, k, hn⟩ := ih (.inr (Nat.lt_of_succ_lt hlt))
    rw [Function.iterate_succ_apply', hn]
    exact timerCycle_of_lt_period hrun hlt

/-- The statement's period is the model's: a well-formed configuration has four of them. -/
theorem timaPeriod_eq {c : Config} (hc : c.wellFormed = true) (tac : BitVec 3) :
    timaPeriod c tac = c.timaPeriods.getD (tac.toNat % 4) 0 := by
  obtain ⟨hlength, -⟩ := (Config.sound hc).timaPeriods
  have hindex : (tac.setWidth 2).toNat = tac.toNat % 4 := BitVec.toNat_setWidth ..
  have hlt : tac.toNat % 4 < c.timaPeriods.length := by omega
  unfold timaPeriod Config.timaPeriod
  rw [hindex, List.getD_eq_getElem _ _ hlt, List.getD_eq_getElem _ _ hlt]

/-- Settles O50: the divider by `divider_after`; the counter waits `left - 1` cycles, and the next one moves it. -/
theorem timerCounts : Obligations.TimerCounts := by
  refine ⟨fun n s h => (divider_after n s h).2, fun n s h => ?_, fun n s hc hrun => ?_, rfl, rfl⟩
  · obtain ⟨d, k, hn⟩ := iterate_timerCycle_of_stopped n h
    rw [hn]
    exact ⟨rfl, rfl, rfl⟩
  · rw [← timaPeriod_eq hc]
    intro period left
    obtain ⟨hpos, hwait, hreach⟩ : 0 < left ∧ (∀ m, m < left → m = 0 ∨ s.timer.timaSub + m < period) ∧
        period ≤ s.timer.timaSub + left := by
      by_cases hlt : s.timer.timaSub < period
      · have hleft : left = period - s.timer.timaSub := if_pos hlt
        exact ⟨by omega, fun m hm => .inr (by omega), by omega⟩
      · have hleft : left = 1 := if_neg hlt
        exact ⟨by omega, fun m hm => .inl (by omega), by omega⟩
    refine ⟨fun hn => ?_, fun hn => ?_⟩
    · obtain ⟨d, k, hwaited⟩ := iterate_timerCycle_of_lt_period hrun (hwait n hn)
      rw [hwaited]
      exact ⟨rfl, rfl, rfl⟩
    · obtain ⟨m, rfl⟩ := Nat.exists_eq_add_one.2 (hn ▸ hpos)
      obtain ⟨d, k, hwaited⟩ := iterate_timerCycle_of_lt_period hrun (hwait m (by omega))
      rw [Function.iterate_succ_apply', hwaited]
      obtain ⟨d', k', hmoved⟩ := timerCycle_of_period_le
        (s := { s with timer := { s.timer with div := d, divSub := k, timaSub := s.timer.timaSub + m } }) hrun
        (hreach.trans_eq (congrArg (s.timer.timaSub + ·) hn.symm))
      rw [hmoved]
      exact ⟨rfl, fun hne => ⟨if_neg hne, if_neg hne⟩, fun heq => ⟨if_pos heq, if_pos heq⟩⟩

end Sys2Proof.Machine
end

section
/-! PROOFS. The cycles of the pixel pipeline (61_ppu.md R600 to R611): what one cycle does to the mode, its counter,
`LY` and the pending bits, and the schedules of a visible line and of a VBLANK line. -/

namespace Sys2Proof.Machine

/-! ## The pending bits -/

/-- Pending bit `n` where `b` holds, else none. -/
def pendingWhere (n : Nat) (b : Bool) : BitVec 5 := if b then 1#5 <<< n else 0#5

@[simp] theorem pendingWhere_false (n : Nat) : pendingWhere n false = 0#5 := rfl

theorem getLsbD_pendingWhere {n : Nat} (hn : n < 5) (b : Bool) (m : Nat) :
    (pendingWhere n b).getLsbD m = (b && decide (m = n)) := by
  unfold pendingWhere
  cases b with
  | false => exact BitVec.getLsbD_zero
  | true =>
    refine (congrArg (BitVec.getLsbD · m) (BitVec.twoPow_eq 5 n).symm).trans ?_
    rw [BitVec.getLsbD_twoPow, decide_eq_true hn, decide_eq_decide.2 eq_comm]

@[simp] theorem State.addPending_ppu (s : State) (f : BitVec 5) : (s.addPending f).ppu = s.ppu := rfl

@[simp] theorem State.addPending_ifReg (s : State) (f : BitVec 5) : (s.addPending f).ifReg = s.ifReg ||| f := rfl

theorem State.raise_where (s : State) (n : Nat) {c : Prop} [Decidable c] :
    (if c then s.raise n else s) = s.addPending (pendingWhere n (decide c)) := by
  unfold pendingWhere
  by_cases h : c
  · rw [if_pos h, decide_eq_true h]; rfl
  · rw [if_neg h, decide_eq_false h]; exact s.addPending_zero.symm

/-- What entering the mode `m` sets (61_ppu.md R610). -/
def Ppu.entryPending (p : Ppu) (m : PpuMode) : BitVec 5 := pendingWhere 1 (p.entrySource m)

/-- What setting `LY` to `v` sets (61_ppu.md R611). -/
def Ppu.lycPending (p : Ppu) (v : Byte) : BitVec 5 := pendingWhere 1 (decide (v = p.lyc) && p.stat.getLsbD 3)

/-- The LCD-stat sources leave pending bit 0 alone. -/
theorem Ppu.getLsbD_zero_entryPending (p : Ppu) (m : PpuMode) : (p.entryPending m).getLsbD 0 = false :=
  (getLsbD_pendingWhere (by decide) ..).trans (Bool.and_false _)

theorem Ppu.getLsbD_zero_lycPending (p : Ppu) (v : Byte) : (p.lycPending v).getLsbD 0 = false :=
  (getLsbD_pendingWhere (by decide) ..).trans (Bool.and_false _)

/-! ## The operations of a cycle -/

theorem enterMode_eq_addPending (m : PpuMode) (s : State) :
    enterMode m s = (s.setPpu { s.ppu with mode := m, dot := 0 }).addPending (s.ppu.entryPending m) := by
  unfold enterMode
  dsimp only
  rw [State.raise_where, Bool.decide_eq_true]
  rfl

/-- Entering a mode does not see the bits pending before. -/
theorem enterMode_addPending (m : PpuMode) (s : State) (p : Ppu) (f : BitVec 5) :
    enterMode m ((s.setPpu p).addPending f) =
      (s.setPpu { p with mode := m, dot := 0 }).addPending (f ||| p.entryPending m) := by
  rw [enterMode_eq_addPending]
  exact State.addPending_addPending (s.setPpu { p with mode := m, dot := 0 }) ..

theorem setLy_eq_addPending (v : Byte) (s : State) :
    setLy v s = (s.setPpu { s.ppu with ly := v }).addPending (s.ppu.lycPending v) := by
  unfold setLy
  dsimp only
  rw [State.raise_where, Bool.decide_and, Bool.decide_eq_true]
  rfl

/-- The mode after HBLANK, by the new `LY` (61_ppu.md R606). -/
def modeAfterHblank (ly : Byte) : PpuMode := if ly = 144#8 then .vblank else .oamScan

/-- The pipeline after the end of HBLANK: the next line, in VBLANK or in OAM_SCAN. -/
def Ppu.afterHblank (p : Ppu) : Ppu :=
  { p with ly := p.ly + 1#8, mode := modeAfterHblank (p.ly + 1#8), dot := 0 }

/-- What the end of HBLANK sets. -/
def Ppu.afterHblankPending (p : Ppu) : BitVec 5 :=
  p.lycPending (p.ly + 1#8) ||| p.entryPending (modeAfterHblank (p.ly + 1#8)) |||
    pendingWhere 0 (decide (p.ly + 1#8 = 144#8))

theorem endHblank_eq_addPending (s : State) :
    endHblank s = (s.setPpu s.ppu.afterHblank).addPending s.ppu.afterHblankPending := by
  have hboundary : (s.ppu.ly + 1#8).toNat = Config.visibleLines ↔ s.ppu.ly + 1#8 = 144#8 :=
    ⟨fun h => BitVec.eq_of_toNat_eq h, fun h => by rw [h]; rfl⟩
  unfold endHblank Ppu.afterHblank Ppu.afterHblankPending modeAfterHblank
  rw [setLy_eq_addPending]
  refine (if_congr hboundary rfl rfl).trans ?_
  by_cases h : s.ppu.ly + 1#8 = 144#8
  · rw [if_pos h, if_pos h, decide_eq_true h, enterMode_addPending]
    exact State.addPending_addPending ..
  · rw [if_neg h, if_neg h, decide_eq_false h, enterMode_addPending]
    exact congrArg _ BitVec.or_zero.symm

/-- The end of the last line of VBLANK, and of the frame (61_ppu.md R605). -/
theorem endVblankLine_of_last {s : State} (h : s.ppu.ly = 153#8) :
    endVblankLine s =
      (s.setPpu { s.ppu with ly := 0#8, mode := .oamScan, dot := 0 }).addPending
        (s.ppu.lycPending 0#8 ||| s.ppu.entryPending .oamScan) := by
  unfold endVblankLine
  refine (if_pos h).trans ?_
  rw [setLy_eq_addPending]
  exact enterMode_addPending ..

/-- The end of another line of VBLANK. -/
theorem endVblankLine_of_not_last {s : State} (h : s.ppu.ly ≠ 153#8) :
    endVblankLine s =
      (s.setPpu { s.ppu with ly := s.ppu.ly + 1#8, dot := 0 }).addPending (s.ppu.lycPending (s.ppu.ly + 1#8)) := by
  unfold endVblankLine
  exact (if_neg h).trans (setLy_eq_addPending ..)

/-- Rendering the current line does not see the counter (61_ppu.md R620). -/
theorem renderCurrentLine_setDot (s : State) (d : Nat) :
    renderCurrentLine (s.setPpu { s.ppu with dot := d }) =
      s.setPpu { s.ppu with dot := d, fb := (renderCurrentLine s).ppu.fb } := by
  unfold renderCurrentLine
  by_cases h : s.ppu.ly.toNat < Config.visibleLines
  · rw [if_pos h]
    refine (if_pos h).trans ?_
    exact congrArg s.setPpu (renderScanline_mode s.cfg s.ppu s.ppu.mode d s.store.vram s.store.oam s.ppu.ly.toNat)
  · rw [if_neg h]
    exact if_neg h

/-- The frame buffer with the current line rendered, whatever the mode and the counter. -/
theorem fb_renderCurrentLine {s : State} (h : s.ppu.ly.toNat ≤ 143) (m : PpuMode) (d : Nat) :
    (renderCurrentLine (s.setPpu { s.ppu with mode := m, dot := d })).ppu.fb =
      (renderScanline s.cfg s.ppu s.store.vram s.store.oam s.ppu.ly.toNat).fb :=
  (congrArg (fun t : State => t.ppu.fb) (if_pos (Nat.lt_succ_of_le h))).trans
    (congrArg Ppu.fb (renderScanline_mode s.cfg s.ppu m d s.store.vram s.store.oam s.ppu.ly.toNat) :)

/-! ## One cycle -/

section
variable {s : State} (hon : s.ppu.lcdc.getLsbD 7 = true)
include hon

/-- Inside a mode a cycle is counted and nothing else happens. -/
theorem ppuCycle_of_ne_budget (h : s.ppu.dot + 1 ≠ s.ppu.mode.budget s.cfg) :
    ppuCycle s = s.setPpu { s.ppu with dot := s.ppu.dot + 1 } := by
  unfold ppuCycle
  rw [if_pos hon]
  cases hm : s.ppu.mode with
  | oamScan | pixelTransfer | hblank | vblank =>
    rw [hm] at h
    exact if_neg h

/-- The last cycle of OAM_SCAN. -/
theorem ppuCycle_of_oamScan_end (hm : s.ppu.mode = .oamScan) (h : s.ppu.dot + 1 = 80) :
    ppuCycle s = s.setPpu { s.ppu with mode := .pixelTransfer, dot := 0 } := by
  unfold ppuCycle
  rw [if_pos hon, hm]
  refine (if_pos h).trans ((enterMode_eq_addPending ..).trans ?_)
  exact State.addPending_zero _

/-- The last cycle of PIXEL_TRANSFER. -/
theorem ppuCycle_of_pixelTransfer_end (hm : s.ppu.mode = .pixelTransfer) (h : s.ppu.dot + 1 = 172) :
    ppuCycle s =
      (s.setPpu { s.ppu with mode := .hblank, dot := 0, fb := (renderCurrentLine s).ppu.fb }).addPending
        (s.ppu.entryPending .hblank) := by
  unfold ppuCycle
  rw [if_pos hon, hm]
  refine (if_pos h).trans ?_
  rw [renderCurrentLine_setDot]
  exact enterMode_eq_addPending ..

/-- The last cycle of HBLANK. -/
theorem ppuCycle_of_hblank_end (hm : s.ppu.mode = .hblank) (h : s.ppu.dot + 1 = 204) :
    ppuCycle s = (s.setPpu s.ppu.afterHblank).addPending s.ppu.afterHblankPending := by
  unfold ppuCycle
  rw [if_pos hon, hm]
  exact (if_pos h).trans (endHblank_eq_addPending _)

/-- The last cycle of the frame. -/
theorem ppuCycle_of_frame_end (hm : s.ppu.mode = .vblank) (h : s.ppu.dot + 1 = s.cfg.lineCycles)
    (hlast : s.ppu.ly = 153#8) :
    ppuCycle s =
      (s.setPpu { s.ppu with ly := 0#8, mode := .oamScan, dot := 0 }).addPending
        (s.ppu.lycPending 0#8 ||| s.ppu.entryPending .oamScan) := by
  unfold ppuCycle
  rw [if_pos hon, hm]
  exact (if_pos h).trans (endVblankLine_of_last hlast)

/-- The last cycle of another line of VBLANK. -/
theorem ppuCycle_of_vblankLine_end (hm : s.ppu.mode = .vblank) (h : s.ppu.dot + 1 = s.cfg.lineCycles)
    (hlast : s.ppu.ly ≠ 153#8) :
    ppuCycle s =
      (s.setPpu { s.ppu with ly := s.ppu.ly + 1#8, dot := 0 }).addPending (s.ppu.lycPending (s.ppu.ly + 1#8)) := by
  unfold ppuCycle
  rw [if_pos hon, hm]
  exact (if_pos h).trans (endVblankLine_of_not_last hlast)

end

/-! ## What a cycle sets -/

/-- What the change of the pipeline from `p` to `q` sets: pending bit 1 by its sources, bit 0 on entry of VBLANK
(61_ppu.md R606, R610, R611). -/
def Ppu.changePending (p q : Ppu) : BitVec 5 :=
  pendingWhere 1 (decide (p.mode ≠ q.mode) && p.entrySource q.mode) |||
    pendingWhere 1 (decide (q.ly ≠ p.ly) && decide (q.ly = p.lyc) && p.stat.getLsbD 3) |||
    pendingWhere 0 (decide (p.mode ≠ q.mode) && decide (q.mode = .vblank))

/-- A cycle sets what the change it makes says: inside a mode neither the mode nor `LY` changes, and the equation of
each mode's last cycle names its sources. -/
theorem ppuCycle_ifReg {s : State} (hon : s.ppu.lcdc.getLsbD 7 = true) :
    (ppuCycle s).ifReg = s.ifReg ||| s.ppu.changePending (ppuCycle s).ppu := by
  have hnext : s.ppu.ly + 1#8 ≠ s.ppu.ly := by bv_omega
  unfold Ppu.changePending
  by_cases hdot : s.ppu.dot + 1 = s.ppu.mode.budget s.cfg
  · cases hm : s.ppu.mode with
    | oamScan =>
      rw [hm] at hdot
      simp [ppuCycle_of_oamScan_end hon hm hdot, Ppu.entrySource]
    | pixelTransfer =>
      rw [hm] at hdot
      simp [ppuCycle_of_pixelTransfer_end hon hm hdot, Ppu.entryPending]
    | hblank =>
      rw [hm] at hdot
      rw [ppuCycle_of_hblank_end hon hm hdot, Ppu.afterHblank, Ppu.afterHblankPending, modeAfterHblank]
      by_cases hv : s.ppu.ly + 1#8 = 144#8
      · simp [BitVec.or_comm, hv, hv ▸ hnext, Ppu.entryPending, Ppu.lycPending]
      · simp [BitVec.or_comm, hv, hnext, Ppu.entryPending, Ppu.lycPending]
    | vblank =>
      rw [hm] at hdot
      by_cases hlast : s.ppu.ly = 153#8
      · simp [ppuCycle_of_frame_end hon hm hdot hlast, hlast, BitVec.or_comm, Ppu.entryPending, Ppu.lycPending]
      · simp [ppuCycle_of_vblankLine_end hon hm hdot hlast, hnext, hm, Ppu.lycPending]
  · simp [ppuCycle_of_ne_budget hon hdot]

/-- Settles O53: `ppuCycle_ifReg` bit by bit; the mode entered picks the one source of its kind. -/
theorem statSources : Obligations.StatSources := by
  intro s hon
  dsimp only
  simp only [ppuCycle_ifReg hon]
  generalize (ppuCycle s).ppu = q
  simp only [Ppu.changePending, BitVec.getLsbD_or, getLsbD_pendingWhere (show 0 < 5 by decide),
    getLsbD_pendingWhere (show 1 < 5 by decide)]
  refine ⟨?_, ?_, fun n hn => ?_⟩
  · cases q.mode with
    | oamScan | pixelTransfer | hblank | vblank => simp [Ppu.entrySource, Bool.or_assoc, -BitVec.getLsbD_eq_getElem]
  · by_cases hm : q.mode = .vblank <;> simp [hm]
  · simp [show n ≠ 1 by omega, show n ≠ 0 by omega]

/-! ## Schedules -/

theorem iterate_ppuCycle_of_le {m k : Nat} (h : m ≤ k) (s : State) :
    ppuCycle^[k] s = ppuCycle^[k - m] (ppuCycle^[m] s) := by
  rw [← Function.iterate_add_apply, Nat.sub_add_cancel h]

section
variable {s : State} (hon : s.ppu.lcdc.getLsbD 7 = true) (hdot : s.ppu.dot = 0)
include hon hdot

/-- From the start of a mode to its last cycle only the counter moves. -/
theorem iterate_ppuCycle_of_lt_budget {n : Nat} (h : n < s.ppu.mode.budget s.cfg) :
    ppuCycle^[n] s = s.setPpu { s.ppu with dot := n } := by
  induction n with
  | zero => exact congrArg (fun d => s.setPpu { s.ppu with dot := d }) hdot
  | succ n ih =>
    rw [Function.iterate_succ_apply', ih (Nat.lt_of_succ_lt h)]
    exact ppuCycle_of_ne_budget (s := s.setPpu { s.ppu with dot := n }) hon (Nat.ne_of_lt h)

/-- Through a mode: its last cycle, from the counter one below the budget. -/
theorem iterate_ppuCycle_budget {n : Nat} (h : n + 1 = s.ppu.mode.budget s.cfg) :
    ppuCycle^[n + 1] s = ppuCycle (s.setPpu { s.ppu with dot := n }) := by
  rw [Function.iterate_succ_apply', iterate_ppuCycle_of_lt_budget hon hdot (h ▸ Nat.lt_succ_self n)]

/-- From OAM_SCAN to PIXEL_TRANSFER (61_ppu.md R602). -/
theorem iterate_ppuCycle_oamScan (hm : s.ppu.mode = .oamScan) :
    ppuCycle^[80] s = s.setPpu { s.ppu with mode := .pixelTransfer, dot := 0 } := by
  rw [iterate_ppuCycle_budget hon hdot (by rw [hm]; rfl)]
  exact ppuCycle_of_oamScan_end (s := s.setPpu { s.ppu with dot := 79 }) hon hm rfl

end

/-- The state at the start of HBLANK of the visible line `s` is at: the row is rendered. -/
def hblankStart (s : State) : State :=
  (s.setPpu { s.ppu with
    mode := .hblank, dot := 0
    fb := (renderScanline s.cfg s.ppu s.store.vram s.store.oam s.ppu.ly.toNat).fb }).addPending
    (s.ppu.entryPending .hblank)

section
variable {s : State} (hon : s.ppu.lcdc.getLsbD 7 = true) (hm : s.ppu.mode = .oamScan) (hdot : s.ppu.dot = 0)
include hon hm hdot

/-- The cycles of PIXEL_TRANSFER, counted from the start of the line. -/
theorem iterate_ppuCycle_in_pixelTransfer {k : Nat} (h1 : 80 ≤ k) (h2 : k < 252) :
    ppuCycle^[k] s = s.setPpu { s.ppu with mode := .pixelTransfer, dot := k - 80 } := by
  rw [iterate_ppuCycle_of_le h1, iterate_ppuCycle_oamScan hon hdot hm]
  refine iterate_ppuCycle_of_lt_budget (s := s.setPpu { s.ppu with mode := .pixelTransfer, dot := 0 }) hon rfl ?_
  show k - 80 < 172
  omega

variable (hly : s.ppu.ly.toNat ≤ 143)
include hly

/-- The first 252 cycles of the line: OAM_SCAN, and PIXEL_TRANSFER with its rendering (61_ppu.md R601, R602). -/
theorem iterate_ppuCycle_hblankStart : ppuCycle^[252] s = hblankStart s := by
  rw [Function.iterate_succ_apply' ppuCycle 251,
    iterate_ppuCycle_in_pixelTransfer hon hm hdot (by decide) (by decide)]
  refine (ppuCycle_of_pixelTransfer_end (s := s.setPpu { s.ppu with mode := .pixelTransfer, dot := 171 }) hon rfl
    rfl).trans ?_
  exact congrArg (fun fb => (s.setPpu { s.ppu with mode := .hblank, dot := 0, fb := fb }).addPending
    (s.ppu.entryPending .hblank)) (fb_renderCurrentLine hly .pixelTransfer 171)

/-- The cycles of HBLANK, counted from the start of the line. -/
theorem iterate_ppuCycle_in_hblank {k : Nat} (h1 : 252 ≤ k) (h2 : k < 456) :
    ppuCycle^[k] s = (hblankStart s).setPpu { (hblankStart s).ppu with dot := k - 252 } := by
  rw [iterate_ppuCycle_of_le h1, iterate_ppuCycle_hblankStart hon hm hdot hly]
  refine iterate_ppuCycle_of_lt_budget (s := hblankStart s) hon rfl ?_
  show k - 252 < 204
  omega

/-- The whole line (61_ppu.md R606, R608). -/
theorem iterate_ppuCycle_lineEnd :
    ppuCycle^[456] s =
      ((hblankStart s).setPpu (hblankStart s).ppu.afterHblank).addPending (hblankStart s).ppu.afterHblankPending := by
  rw [Function.iterate_succ_apply' ppuCycle 455,
    iterate_ppuCycle_in_hblank hon hm hdot hly (by decide) (by decide)]
  exact ppuCycle_of_hblank_end (s := (hblankStart s).setPpu { (hblankStart s).ppu with dot := 203 }) hon rfl rfl

end

/-- Settles O51: the cycles of each mode by that mode's equation, and the whole line by `iterate_ppuCycle_lineEnd`. -/
theorem visibleLineSchedule : Obligations.VisibleLineSchedule := by
  intro k s hon hm hdot hly
  have hstart : (hblankStart s).ifReg.getLsbD 0 = s.ifReg.getLsbD 0 := by
    rw [hblankStart, State.addPending_ifReg, BitVec.getLsbD_or, Ppu.getLsbD_zero_entryPending]
    exact Bool.or_false _
  rcases Nat.lt_or_ge k 80 with h80 | h80
  · rw [iterate_ppuCycle_of_lt_budget hon hdot (by rw [hm]; exact h80)]
    exact ⟨fun _ => ⟨hm, rfl⟩, by omega, by omega, fun _ => rfl, by omega, fun _ => ⟨rfl, rfl⟩, by omega⟩
  rcases Nat.lt_or_ge k 252 with h252 | h252
  · rw [iterate_ppuCycle_in_pixelTransfer hon hm hdot h80 h252]
    exact ⟨by omega, fun _ _ => ⟨rfl, rfl⟩, by omega, fun _ => rfl, by omega, fun _ => ⟨rfl, rfl⟩, by omega⟩
  rcases Nat.lt_or_ge k 456 with h456 | h456
  · rw [iterate_ppuCycle_in_hblank hon hm hdot hly h252 h456]
    exact ⟨by omega, by omega, fun _ _ => ⟨rfl, rfl⟩, by omega, fun _ _ => rfl, fun _ => ⟨rfl, hstart⟩, by omega⟩
  have hend := iterate_ppuCycle_lineEnd hon hm hdot hly
  have hboundary : s.ppu.ly + 1#8 = 144#8 ↔ s.ppu.ly = 143#8 := by bv_omega
  refine ⟨by omega, by omega, by omega, by omega, fun _ hk => ?_, by omega, fun hk => ?_⟩
  · rw [le_antisymm hk h456, hend]
    rfl
  · rw [hk, hend]
    refine ⟨if_congr hboundary rfl rfl, rfl, rfl, BitVec.getLsbD_or.trans (congrArg₂ _ hstart ?_)⟩
    rw [Ppu.afterHblankPending, BitVec.getLsbD_or, BitVec.getLsbD_or, Ppu.getLsbD_zero_lycPending,
      Ppu.getLsbD_zero_entryPending, getLsbD_pendingWhere (by decide), decide_eq_true rfl, Bool.and_true]
    exact decide_eq_decide.2 hboundary

/-- Settles O52: the counter up to the last cycle, whose equation is that of the frame's end or of another line's. -/
theorem vblankLineSchedule : Obligations.VblankLineSchedule := by
  refine ⟨fun k s hon hm hdot _ _ hcycles => ?_, rfl⟩
  have hbudget : s.ppu.mode.budget s.cfg = s.cfg.lineCycles := by rw [hm]; rfl
  rcases Nat.lt_trichotomy k s.cfg.lineCycles with hk | hk | hk
  · rw [iterate_ppuCycle_of_lt_budget hon hdot (hbudget ▸ hk)]
    exact ⟨fun _ => rfl, fun _ => ⟨hm, rfl, rfl⟩, by omega⟩
  · obtain ⟨n, hn⟩ := Nat.exists_eq_add_one.2 hcycles
    rw [hk, hn, iterate_ppuCycle_budget hon hdot (hbudget.trans hn).symm]
    by_cases hlast : s.ppu.ly = 153#8
    · rw [ppuCycle_of_frame_end (s := s.setPpu { s.ppu with dot := n }) hon hm hn.symm hlast]
      refine ⟨fun _ => ?_, by omega, fun _ => ⟨rfl, fun _ => ⟨rfl, rfl⟩, fun h => absurd hlast h⟩⟩
      rw [State.addPending_ifReg, BitVec.getLsbD_or, BitVec.getLsbD_or, Ppu.getLsbD_zero_lycPending,
        Ppu.getLsbD_zero_entryPending]
      exact Bool.or_false _
    · rw [ppuCycle_of_vblankLine_end (s := s.setPpu { s.ppu with dot := n }) hon hm hn.symm hlast]
      refine ⟨fun _ => ?_, by omega, fun _ => ⟨rfl, fun h => absurd h hlast, fun _ => ⟨hm, rfl⟩⟩⟩
      rw [State.addPending_ifReg, BitVec.getLsbD_or, Ppu.getLsbD_zero_lycPending]
      exact Bool.or_false _
  · exact ⟨by omega, by omega, by omega⟩

end Sys2Proof.Machine
end

section
/-! PROOFS. The picture of the pixel pipeline (61_ppu.md R601, R620 to R629): the row a rendering writes, the pixels of
the background and the window, and the sprites. -/

namespace Sys2Proof.Machine

/-! ## The row written -/

/-- The cell of a rendered row is the pixel of its column; every other cell is kept (61_ppu.md R620). -/
theorem read_renderScanline (c : Config) (p : Ppu) (vram oam : Memory) (ly : Nat) {x : Nat} (hx : x < c.fbWidth)
    (y : Nat) :
    (renderScanline c p vram oam ly).fb.read (y * c.fbWidth + x) =
      if y = ly then linePixel p vram oam (selectSprites c p oam y) y x else p.fb.read (y * c.fbWidth + x) := by
  have hrow {a b : Nat} (h : a < b) : a * c.fbWidth + c.fbWidth ≤ b * c.fbWidth :=
    (Nat.succ_mul ..).symm.trans_le (Nat.mul_le_mul_right _ h)
  unfold renderScanline
  rcases Nat.lt_trichotomy y ly with h | rfl | h
  · rw [if_neg (Nat.ne_of_lt h)]
    exact Cells.read_fill_out p.fb _ _ _ (.inl (by have := hrow h; omega))
  · rw [if_pos rfl]
    exact Cells.read_fill_in p.fb _ _ _ hx
  · rw [if_neg (Nat.ne_of_gt h)]
    exact Cells.read_fill_out p.fb _ _ _ (.inr ((hrow h).trans (Nat.le_add_right ..)))

/-! ## Shades and tiles -/

/-- The shade of a colour: its two bits of the palette (61_ppu.md R626). -/
theorem toNat_shade (palette : Byte) (c : BitVec 2) : (shade palette c).toNat = palette.toNat / 4 ^ c.toNat % 4 := by
  unfold shade
  rw [BitVec.toNat_setWidth, BitVec.toNat_ushiftRight, Nat.shiftRight_eq_div_pow, Nat.pow_mul]

/-- A colour is a bit of each of its two bytes (61_ppu.md R627). -/
theorem toNat_colourAt (lo hi : Byte) (px : Nat) :
    (colourAt lo hi px).toNat = 2 * (hi.toNat / 2 ^ (7 - px) % 2) + lo.toNat / 2 ^ (7 - px) % 2 := by
  unfold colourAt
  rw [← toNat_getLsbD, ← toNat_getLsbD]
  cases hi.getLsbD (7 - px) <;> cases lo.getLsbD (7 - px) <;> rfl

/-- The data of a tile, its number unsigned from the start of the array or signed from 0x1000 (61_ppu.md R628). -/
theorem tileOffset_eq (lcdc tile : Byte) :
    (tileOffset lcdc tile.toNat : Int) =
      if lcdc.getLsbD 4 then 16 * (tile.toNat : Int) else 0x1000 + 16 * tile.toInt := by
  have := tile.isLt
  unfold tileOffset
  rw [BitVec.toInt_eq_toNat_cond]
  split_ifs <;> omega

/-- Without sprites a pixel is the shade of what is under them (61_ppu.md R620). -/
theorem linePixel_of_no_sprites {p : Ppu} (h : p.lcdc.getLsbD 1 = false) (vram oam : Memory) (sel : List Nat)
    (y x : Nat) : linePixel p vram oam sel y x = shade p.bgp (underPixel p vram x y) :=
  if_neg (Bool.eq_false_iff.1 h)

theorem windowCovers_iff (p : Ppu) (x y : Nat) :
    windowCovers p x y = true ↔ p.lcdc.getLsbD 5 = true ∧ p.wy.toNat ≤ y ∧ p.wx.toNat ≤ x + 7 := by
  unfold windowCovers
  rw [Bool.and_eq_true, Bool.and_eq_true, decide_eq_true_eq, decide_eq_true_eq, and_assoc]

/-- Settles O54: the last cycle of PIXEL_TRANSFER renders row `LY`; the layers of a pixel by the branches of
`underPixel`. -/
theorem rendersOneRow : Obligations.RendersOneRow := by
  refine ⟨fun s y x hon hm hdot hly hx => ?_, rfl, fun s hoff => if_neg (Bool.eq_false_iff.1 hoff),
    fun p vram oam sel y x hsprites => ?_, fun p vram mapSel px py => ?_⟩
  · rw [ppuCycle_of_pixelTransfer_end hon hm (by rw [hdot]), State.addPending_ppu, State.setPpu_ppu]
    refine (congrArg (Cells.read · _) (fb_renderCurrentLine hly s.ppu.mode s.ppu.dot)).trans ?_
    exact read_renderScanline s.cfg s.ppu s.store.vram s.store.oam s.ppu.ly.toNat hx y
  · rw [linePixel_of_no_sprites hsprites, toNat_shade]
    unfold underPixel
    rw [← windowCovers_iff]
    refine ⟨fun hwin => by rw [if_pos hwin]; rfl, fun hwin => ⟨fun hbg => ?_, fun hbg => ?_⟩⟩
    · rw [if_neg hwin, hbg]
      simp
    · rw [if_neg hwin, if_pos hbg]
      rfl
  · refine ⟨_, ?_, toNat_colourAt ..⟩
    rw [← tileOffset_eq]
    rfl

/-! ## The selected sprites -/

theorem spriteOnLine_iff (p : Ppu) (oam : Memory) (ly i : Nat) :
    spriteOnLine p oam ly i = true ↔ (oam.read (4 * i)).toNat ≤ ly + 16 ∧
      ly + 16 < (oam.read (4 * i)).toNat + (if p.lcdc.getLsbD 2 then 16 else 8) := by
  unfold spriteOnLine
  rw [Bool.and_eq_true, decide_eq_true_eq, decide_eq_true_eq]
  rfl

/-- A prefix of a rising list leaves a member out only when it is full and ends before that member. -/
theorem mem_take_or_full {l : List Nat} (h : l.Pairwise (· < ·)) (n : Nat) {i : Nat} (hi : i ∈ l) :
    i ∈ l.take n ∨ ((l.take n).length = n ∧ ∀ j ∈ l.take n, j < i) := by
  rw [← List.take_append_drop n l] at h hi
  refine (List.mem_append.1 hi).imp_right fun hdrop => ⟨?_, fun j hj => (List.pairwise_append.1 h).2.2 j hj i hdrop⟩
  have := List.length_pos_of_mem hdrop
  rw [List.length_drop] at this
  rw [List.length_take]
  omega

/-! ## The pixel of a sprite -/

/-- A tile number without its bit 0. -/
theorem toNat_and_0xFE (t : Byte) : (t &&& 0xFE#8).toNat = t.toNat - t.toNat % 2 := by
  have hsplit : (t &&& 0xFE#8) ||| (t &&& 1#8) = t := by
    rw [← BitVec.and_or_distrib_left]
    exact BitVec.and_allOnes
  have hdisjoint : (t &&& 0xFE#8) &&& (t &&& 1#8) = 0#8 :=
    calc (t &&& 0xFE#8) &&& (t &&& 1#8) = (t &&& t) &&& (0xFE#8 &&& 1#8) := by ac_rfl
      _ = 0#8 := BitVec.and_zero
  have hbit0 : (t &&& 1#8).toNat = t.toNat % 2 := (BitVec.toNat_and ..).trans (Nat.and_one_is_mod _)
  have hsum := toNat_or_of_and_eq_zero hdisjoint
  rw [hsplit, hbit0] at hsum
  omega

theorem spriteTile_eq (p : Ppu) (oam : Memory) (i : Nat) :
    spriteTile p oam i =
      let tile := (oam.read (4 * i + 2)).toNat
      if p.lcdc.getLsbD 2 then tile - tile % 2 else tile := by
  exact if_congr Iff.rfl (toNat_and_0xFE _) rfl

theorem spriteRow_eq (p : Ppu) (oam : Memory) (i ly : Nat) :
    spriteRow p oam i ly =
      let cy := ly + 16 - (oam.read (4 * i)).toNat
      if (oam.read (4 * i + 3)).getLsbD 6 then (if p.lcdc.getLsbD 2 then 15 else 7) - cy else cy := by
  have hlast : spriteHeight p - 1 = if p.lcdc.getLsbD 2 then 15 else 7 := apply_ite (· - 1) ..
  unfold spriteRow
  rw [hlast]
  rfl

/-- Outside its eight columns a sprite is transparent (61_ppu.md R624). -/
theorem spritePixel_of_not_covers (p : Ppu) (vram oam : Memory) {i x : Nat} (ly : Nat)
    (h : x + 8 < (oam.read (4 * i + 1)).toNat ∨ (oam.read (4 * i + 1)).toNat ≤ x) :
    spritePixel p vram oam i x ly = 0#2 := by
  refine if_neg ?_
  show ¬((oam.read (4 * i + 1)).toNat ≤ x + 8 ∧ x + 8 < (oam.read (4 * i + 1)).toNat + 8)
  omega

/-- Inside them its colour is that of its tile's row (61_ppu.md R624). -/
theorem spritePixel_of_covers (p : Ppu) (vram oam : Memory) {i x : Nat} (ly : Nat)
    (h1 : (oam.read (4 * i + 1)).toNat ≤ x + 8) (h2 : x < (oam.read (4 * i + 1)).toNat) :
    spritePixel p vram oam i x ly =
      let cx := x + 8 - (oam.read (4 * i + 1)).toNat
      let d := 16 * spriteTile p oam i + 2 * spriteRow p oam i ly
      colourAt (vram.read d) (vram.read (d + 1)) (if (oam.read (4 * i + 3)).getLsbD 5 then 7 - cx else cx) := by
  rw [Nat.mul_comm 16]
  exact if_pos ⟨h1, Nat.add_lt_add_right h2 8⟩

/-! ## The priority of the sprites -/

/-- Sprites that are transparent at a column leave it to those after them (61_ppu.md R625). -/
theorem spriteShade_append {p : Ppu} {vram oam : Memory} {x y : Nat} {before : List Nat}
    (h : ∀ j ∈ before, spritePixel p vram oam j x y = 0#2) (under : BitVec 2) (rest : List Nat) :
    spriteShade p vram oam under x y (before ++ rest) = spriteShade p vram oam under x y rest := by
  induction before with
  | nil => rfl
  | cons j before ih =>
    obtain ⟨hj, hbefore⟩ := List.forall_mem_cons.1 h
    exact (if_pos hj).trans (ih hbefore)

/-- The first opaque sprite decides; it hides behind a colour under it where its priority bit is set (61_ppu.md
R625). -/
theorem spriteShade_of_opaque {p : Ppu} {vram oam : Memory} {i x y : Nat} (h : spritePixel p vram oam i x y ≠ 0#2)
    (under : BitVec 2) (after : List Nat) :
    spriteShade p vram oam under x y (i :: after) =
      if (oam.read (4 * i + 3)).getLsbD 7 ∧ under ≠ 0#2 then none
      else some (shade (if (oam.read (4 * i + 3)).getLsbD 4 then p.obp1 else p.obp0) (spritePixel p vram oam i x y)) :=
  if_neg h

/-- With sprites a pixel is what they shade, else the shade of what is under them (61_ppu.md R620). -/
theorem linePixel_of_sprites {p : Ppu} (h : p.lcdc.getLsbD 1 = true) (vram oam : Memory) (sel : List Nat) (y x : Nat) :
    linePixel p vram oam sel y x =
      (spriteShade p vram oam (underPixel p vram x y) x y sel).getD (shade p.bgp (underPixel p vram x y)) :=
  if_pos h

/-- Settles O55: the selection is a prefix of the sprites on the line in table order; `spriteShade` passes over the
transparent sprites to the first opaque one. -/
theorem spriteSelection : Obligations.SpriteSelection := by
  refine ⟨fun c p oam ly => ?_, rfl, rfl,
    fun p vram oam i x ly => ⟨spritePixel_of_not_covers p vram oam ly, fun h1 h2 _ _ => ?_⟩,
    fun p vram oam before after i y x hsprites hbefore => ?_⟩
  · have hrising : ((List.range c.oamEntries).filter (spriteOnLine p oam ly)).Pairwise (· < ·) :=
      List.pairwise_lt_range.filter _
    refine ⟨List.length_take_le .., hrising.take, fun i hi => ?_, fun i hi h1 h2 => ?_⟩
    · obtain ⟨hrange, hline⟩ := List.mem_filter.1 (List.mem_of_mem_take hi)
      exact ⟨List.mem_range.1 hrange, (spriteOnLine_iff p oam ly i).1 hline⟩
    · exact mem_take_or_full hrising _
        (List.mem_filter.2 ⟨List.mem_range.2 hi, (spriteOnLine_iff p oam ly i).2 ⟨h1, h2⟩⟩)
  · intro attr tile cy row bit d
    have hbit : 7 - (if attr.getLsbD 5 then 7 - (x + 8 - (oam.read (4 * i + 1)).toNat)
        else x + 8 - (oam.read (4 * i + 1)).toNat) = bit := by
      unfold bit
      split_ifs <;> omega
    rw [spritePixel_of_covers p vram oam ly h1 h2, spriteTile_eq, spriteRow_eq]
    exact (toNat_colourAt ..).trans (by rw [hbit])
  · simp only [linePixel_of_sprites hsprites]
    constructor
    · rw [← List.append_nil before, spriteShade_append hbefore]
      rfl
    · intro hopaque
      rw [spriteShade_append hbefore, spriteShade_of_opaque hopaque, apply_ite (Option.getD · _)]
      rfl

end Sys2Proof.Machine
end

section
/-! PROOFS. The synthesizer (62_spu.md): one step of a voice and of its envelope, the frame of a core and of the
machine, and the port operations. -/

namespace Sys2Proof.Machine

/-! ## The envelope -/

theorem Voice.step_of_keyed {v : Voice} (h : v.keyOn = true) (c : Config) (sram : Cells 16) :
    v.step c sram = ((v.stepEnvelope c).advance c, (v.stepEnvelope c).output c sram) := if_pos h

theorem Voice.step_of_idle {v : Voice} (h : v.keyOn = false) (c : Config) (sram : Cells 16) : v.step c sram = (v, 0) :=
  if_neg (Bool.eq_false_iff.1 h)

theorem Voice.stepEnvelope_of_attack {v : Voice} (h : v.keyOff = false) (c : Config) :
    v.stepEnvelope c = { v with env := min c.envMax (v.env + c.envStep v.attack.toNat) } :=
  if_neg (Bool.eq_false_iff.1 h)

theorem Voice.stepEnvelope_of_release {v : Voice} (h : v.keyOff = true) (c : Config) :
    v.stepEnvelope c =
      if v.env - c.envStep v.release.toNat = 0 then { v with env := 0, keyOn := false, keyOff := false }
      else { v with env := v.env - c.envStep v.release.toNat } := if_pos h

/-- The envelope's update writes the amplitude and the two latches. -/
theorem Voice.stepEnvelope_eq (c : Config) (v : Voice) :
    ∃ env keyOn keyOff, v.stepEnvelope c = { v with env := env, keyOn := keyOn, keyOff := keyOff } := by
  cases h : v.keyOff with
  | false => exact ⟨_, _, _, stepEnvelope_of_attack h c⟩
  | true =>
    rw [stepEnvelope_of_release h]
    split <;> exact ⟨_, _, _, rfl⟩

/-- A voice after a step of attack (62_spu.md R710). -/
theorem Voice.step_of_attack {v : Voice} (hon : v.keyOn = true) (hoff : v.keyOff = false) (c : Config)
    (sram : Cells 16) :
    (v.step c sram).1 = { v with
      env := min c.envMax (v.env + c.envStep v.attack.toNat)
      pos := (v.pos + v.pitch.toNat) % (c.sramSamples * c.pitchOne) } := by
  rw [step_of_keyed hon, stepEnvelope_of_attack hoff]
  rfl

/-- A voice after a step of release (62_spu.md R710). -/
theorem Voice.step_of_release {v : Voice} (hon : v.keyOn = true) (hoff : v.keyOff = true) (c : Config)
    (sram : Cells 16) :
    (v.step c sram).1 = { v with
      env := v.env - c.envStep v.release.toNat
      keyOn := decide (v.env - c.envStep v.release.toNat ≠ 0)
      keyOff := decide (v.env - c.envStep v.release.toNat ≠ 0)
      pos := (v.pos + v.pitch.toNat) % (c.sramSamples * c.pitchOne) } := by
  rw [step_of_keyed hon, stepEnvelope_of_release hoff]
  split
  · next hzero => simp [hzero, advance]
  · next hpos => simp [hpos, hon, hoff, advance]

/-- The envelope's update does not see decay and sustain (62_spu.md R711). -/
theorem Voice.stepEnvelope_decay_sustain (c : Config) (v : Voice) (decay sustain : BitVec 16) :
    ({ v with decay := decay, sustain := sustain } : Voice).stepEnvelope c =
      { v.stepEnvelope c with decay := decay, sustain := sustain } := by
  unfold stepEnvelope
  dsimp only
  split_ifs <;> rfl

/-- Nor does the step (62_spu.md R711). -/
theorem Voice.step_decay_sustain (c : Config) (v : Voice) (sram : Cells 16) (decay sustain : BitVec 16) :
    ({ v with decay := decay, sustain := sustain } : Voice).step c sram =
      ({ (v.step c sram).1 with decay := decay, sustain := sustain }, (v.step c sram).2) := by
  unfold step
  dsimp only
  rw [stepEnvelope_decay_sustain]
  split <;> rfl

section
variable {c : Config} (hmax : c.envMax = 0x7FFF) (hlaw : ∀ r, c.envStep r = r + 1) {v : Voice} (sram : Cells 16)
  (hon : v.keyOn = true)
include hmax hlaw hon

/-- `k` steps of attack from 0 under the law of `CFG_REF` (62_spu.md R719). -/
theorem Voice.iterate_attack (hoff : v.keyOff = false) (henv : v.env = 0) (k : Nat) :
    ∃ pos, (fun u : Voice => (u.step c sram).1)^[k] v =
      { v with env := min 0x7FFF (k * (v.attack.toNat + 1)), pos := pos } := by
  induction k with
  | zero => exact ⟨v.pos, by rw [Function.iterate_zero_apply, Nat.zero_mul, Nat.min_zero, ← henv]⟩
  | succ k ih =>
    obtain ⟨pos, hk⟩ := ih
    rw [Function.iterate_succ_apply', hk, step_of_attack (by exact hon) (by exact hoff), hmax, hlaw]
    have hsum : min 0x7FFF (min 0x7FFF (k * (v.attack.toNat + 1)) + (v.attack.toNat + 1)) =
        min 0x7FFF ((k + 1) * (v.attack.toNat + 1)) := by
      rw [Nat.succ_mul]
      omega
    rw [← hsum]
    exact ⟨_, rfl⟩

omit hmax in
/-- `k` steps of release from full under the law of `CFG_REF` (62_spu.md R719): both latches are clear exactly where the
amplitude is 0. -/
theorem Voice.iterate_release (hoff : v.keyOff = true) (henv : v.env = 0x7FFF) (k : Nat) :
    ∃ pos, (fun u : Voice => (u.step c sram).1)^[k] v =
      { v with
        env := 0x7FFF - k * (v.release.toNat + 1), pos := pos
        keyOn := decide (0x7FFF - k * (v.release.toNat + 1) ≠ 0)
        keyOff := decide (0x7FFF - k * (v.release.toNat + 1) ≠ 0) } := by
  induction k with
  | zero =>
    refine ⟨v.pos, ?_⟩
    cases v
    cases hon
    cases hoff
    cases henv
    simp
  | succ k ih =>
    obtain ⟨pos, hk⟩ := ih
    rw [Function.iterate_succ_apply', hk]
    have hsub : 0x7FFF - (k + 1) * (v.release.toNat + 1) =
        0x7FFF - k * (v.release.toNat + 1) - (v.release.toNat + 1) := by rw [Nat.succ_mul, Nat.sub_sub]
    rw [hsub]
    by_cases hzero : 0x7FFF - k * (v.release.toNat + 1) = 0
    · rw [step_of_idle (by simp [hzero])]
      exact ⟨pos, by rw [hzero, Nat.zero_sub]⟩
    · rw [step_of_release (by simp [hzero]) (by simp [hzero]), hlaw]
      exact ⟨_, rfl⟩

end

/-- The first step count at which `k` steps of size `r + 1` cover the full scale is the quotient rounded up. -/
theorem ceil_le_iff (r k : Nat) : (0x7FFF + r) / (r + 1) ≤ k ↔ 0x7FFF ≤ k * (r + 1) := by
  rw [Nat.div_le_iff_le_mul_add_pred (Nat.succ_pos r), Nat.mul_comm]
  exact Nat.add_le_add_iff_right

/-- Settles O56: the one-step laws, then their iteration. -/
theorem envelopeSchedule : Obligations.EnvelopeSchedule := by
  refine ⟨fun c v sram hon => ?_, Voice.step_decay_sustain, ⟨rfl, fun _ => rfl⟩, fun c k v sram hmax hlaw hon => ?_⟩
  · refine ⟨?_, fun hoff => ?_, fun hoff => ?_⟩
    · obtain ⟨_, _, _, h⟩ := v.stepEnvelope_eq c
      rw [Voice.step_of_keyed hon, h]
      rfl
    · rw [Voice.step_of_attack hon hoff]
      exact ⟨rfl, hon, hoff⟩
    · rw [Voice.step_of_release hon hoff]
      refine ⟨?_, by simp, by simp⟩
      dsimp only
      omega
  · refine ⟨fun hoff henv => ?_, fun hoff henv => ?_⟩
    · obtain ⟨_, h⟩ := Voice.iterate_attack hmax hlaw sram hon hoff henv k
      rw [h, ceil_le_iff]
      exact ⟨rfl, min_eq_left_iff⟩
    · obtain ⟨_, h⟩ := Voice.iterate_release hlaw sram hon hoff henv k
      rw [h, ceil_le_iff]
      refine ⟨rfl, ?_, .rfl⟩
      dsimp only
      rw [decide_eq_false_iff_not, not_not, Nat.sub_eq_zero_iff_le]

/-! ## The frame -/

/-- A keyed voice's sample index and volume are those before the step (62_spu.md R712). -/
theorem Voice.output_stepEnvelope (c : Config) (v : Voice) (sram : Cells 16) :
    (v.stepEnvelope c).output c sram =
      (sram.read (v.pos / c.pitchOne)).toInt * (v.stepEnvelope c).env / 32768 * (v.volume.toNat % 32768 : Nat) /
        32768 := by
  obtain ⟨_, _, _, h⟩ := v.stepEnvelope_eq c
  rw [h]
  rfl

/-- A step of the synthesizer writes the pending bit of the IRQ line if a core's IRQ fires (62_spu.md R718). -/
theorem ifReg_spuStep (s : State) :
    (spuStep s).ifReg = match s.cfg.spuIrqLine with
      | some n => s.ifReg ||| pendingWhere n.val (s.spu.cores.any SpuCore.irqFires)
      | none => s.ifReg := by
  unfold spuStep
  dsimp only
  cases s.cfg.spuIrqLine with
  | none => rfl
  | some n => cases s.spu.cores.any SpuCore.irqFires <;> simp [pendingWhere]


/-- What a step of the synthesizer leaves of its own: the cores stepped, and one frame more (62_spu.md R716, R725). -/
theorem spu_spuStep (s : State) :
    (spuStep s).spu = { s.spu with
      cores := s.spu.cores.map fun k => (k.step s.cfg).1
      outbuf := s.spu.outbuf ++
        [BitVec.ofInt 16 (sat16 (s.spu.cores.map fun k => (k.step s.cfg).2.1).sum),
          BitVec.ofInt 16 (sat16 (s.spu.cores.map fun k => (k.step s.cfg).2.2).sum)] } := by
  unfold spuStep
  simp only [List.map_map]
  split
  · split <;> rfl
  · rfl

theorem sat16_sat16 (a : Int) : sat16 (sat16 a) = sat16 a := by
  unfold sat16
  omega

/-- A core's step in one equation (62_spu.md R715, R716, R718). -/
theorem SpuCore.step_eq (c : Config) (k : SpuCore) :
    let sum := (k.voices.map fun v => (v.step c k.sram).2).sum
    let left := if k.reverbEnable then sum + reverbTap c (k.rvbL.read k.rvbIdx) else sum
    let right := if k.reverbEnable then sum + reverbTap c (k.rvbR.read k.rvbIdx) else sum
    k.step c = ({ k with
      voices := k.voices.map fun v => (v.step c k.sram).1
      irqFlag := k.irqFlag || k.irqFires
      rvbL := if k.reverbEnable then k.rvbL.write k.rvbIdx (BitVec.ofInt 16 (sat16 left)) else k.rvbL
      rvbR := if k.reverbEnable then k.rvbR.write k.rvbIdx (BitVec.ofInt 16 (sat16 right)) else k.rvbR
      rvbIdx := if k.reverbEnable then (k.rvbIdx + 1) % c.reverbDelay else k.rvbIdx }, sat16 left, sat16 right) := by
  have hmix : k.mix c =
      (k.voices.map fun v => (v.step c k.sram).1, (k.voices.map fun v => (v.step c k.sram).2).sum) := by
    simp [mix, Function.comp_def]
  unfold step frame
  rw [hmix]
  cases k.irqFires <;> cases k.reverbEnable <;> simp

/-- Settles O57: the step of a voice, of a core and of the machine. -/
theorem spuFrames : Obligations.SpuFrames := by
  have hone (s : State) (k : SpuCore) (hcore : s.spu.cores = [k]) : (spuStep s).spu.outbuf =
      s.spu.outbuf ++ [BitVec.ofInt 16 (k.step s.cfg).2.1, BitVec.ofInt 16 (k.step s.cfg).2.2] := by
    rw [spu_spuStep, hcore]
    simp only [List.map_cons, List.map_nil, List.sum_singleton, SpuCore.step_eq, sat16_sat16]
  refine ⟨fun c v sram => ⟨fun h => Voice.step_of_idle h c sram, fun h => ?_⟩, fun c k => ?_, fun s => ?_, hone,
    fun s k hcore hreverb hidle => ?_⟩
  · obtain ⟨_, _, _, henvelope⟩ := v.stepEnvelope_eq c
    rw [Voice.step_of_keyed h]
    exact ⟨Voice.output_stepEnvelope c v sram, by rw [henvelope]; rfl⟩
  · rw [SpuCore.step_eq]
    exact ⟨rfl, rfl⟩
  · refine ⟨by rw [spu_spuStep]; rfl, by rw [spu_spuStep], fun hline => ?_, fun n hline m => ?_⟩
    · rw [ifReg_spuStep, hline]
    · rw [ifReg_spuStep, hline]
      dsimp only
      rw [BitVec.getLsbD_or, getLsbD_pendingWhere n.isLt, Bool.and_comm]
      rfl
  · have hsilent : (k.voices.map fun v => (v.step s.cfg k.sram).2).sum = 0 := by
      refine List.sum_eq_zero fun x hx => ?_
      obtain ⟨v, hv, rfl⟩ := List.mem_map.1 hx
      rw [Voice.step_of_idle (hidle v hv)]
    rw [hone s k hcore, SpuCore.step_eq]
    simp only [hreverb, hsilent]
    rfl

/-! ## The port operations -/

/-- A list with its element `n` changed, element by element. -/
theorem getElem?_modify_ite {α : Type} (l : List α) (n : Nat) (f : α → α) (j : Nat) :
    (l.modify n f)[j]? = if j = n then l[j]?.map f else l[j]? := by
  rw [List.getElem?_modify]
  by_cases h : n = j
  · simp [h]
  · simp [h, Ne.symm h]

/-- A write to a voice that does not exist changes nothing (62_spu.md R720). -/
theorem SpuCore.onVoice_of_length_le {k : SpuCore} {v : Nat} (h : k.voices.length ≤ v) (f : Voice → Voice) :
    k.onVoice v f = k := by
  unfold onVoice
  rw [List.modify_eq_self h]

theorem Voice.releaseKey_eq (v : Voice) : v.releaseKey = { v with keyOff := v.keyOff || v.keyOn } := by
  unfold releaseKey
  cases v with
  | mk _ _ _ _ _ _ _ _ keyOn keyOff => cases keyOn <;> simp

/-- What an operation that writes one voice changes, and what it does where there is no such voice. -/
theorem SpuCore.port_of_onVoice {c : Config} {k : SpuCore} {v : Nat} {op : SpuOp} {f : Voice → Voice}
    (h : k.port c op = k.onVoice v f) :
    (∀ j, (k.port c op).voices[j]? = if j = v then k.voices[j]?.map f else k.voices[j]?) ∧
    k.port c op = { k with voices := (k.port c op).voices } ∧ (k.voices.length ≤ v → k.port c op = k) := by
  rw [h]
  exact ⟨getElem?_modify_ite k.voices v f, rfl, fun hv => onVoice_of_length_le hv f⟩

/-- Settles O58: nine operations write one voice; the others write the fields they name. -/
theorem spuPortOperations : Obligations.SpuPortOperations := by
  refine ⟨fun c k v w a => ?_, fun c k w a r q => ⟨rfl, rfl, rfl, rfl, rfl, fun hwf i => ?_⟩,
    fun s n op => ⟨getElem?_modify_ite s.spu.cores n _, rfl⟩, rfl, rfl⟩
  · have hkeyOff : k.port c (.keyOff v) = k.onVoice v fun x => { x with keyOff := x.keyOff || x.keyOn } :=
      congrArg (k.onVoice v) (funext Voice.releaseKey_eq)
    simp only [List.forall_mem_cons]
    have voiceOp := @SpuCore.port_of_onVoice c k v
    exact ⟨voiceOp rfl, voiceOp rfl, voiceOp rfl, voiceOp rfl, voiceOp rfl, voiceOp rfl, voiceOp rfl, voiceOp rfl,
      voiceOp hkeyOff, nofun⟩
  · show (k.sram.write k.xferAddr w).read i = _
    split
    · next h => rw [h, Cells.read_write_self hwf]
    · next h => exact Cells.read_write_ne k.sram h w

end Sys2Proof.Machine
end

section
/-! PROOFS. Completion (70_reset_and_hazards.md R821, R832, R833; 60_exceptions.md R504): what an instruction and a tick
charge, and what a run of ticks answers. -/

namespace Sys2Proof.Machine

/-! ## The cycles of an instruction -/

/-- The result completes, 4 to 24 cycles on from `s` by a multiple of 4 (70_reset_and_hazards.md R821). -/
def Charges (s : State) (r : Result) : Prop :=
  ∃ t, r = .next t ∧ ∃ k, 1 ≤ k ∧ k ≤ 6 ∧ t.cycles = s.cycles + 4 * k

theorem push16_cycles (v : Word) (s : State) : (push16 v s).cycles = s.cycles := by simp [push16_eq]

section
variable {s t : State}

theorem Charges.charge (k : Nat) (h : t.cycles = s.cycles) (hk : 1 ≤ k ∧ k ≤ 6 := by decide) :
    Charges s (.next (t.charge (4 * k))) :=
  ⟨_, rfl, k, hk.1, hk.2, congrArg (· + 4 * k) h⟩

theorem Charges.ite {c : Prop} [Decidable c] {x y : State} (hx : Charges s (.next x)) (hy : Charges s (.next y)) :
    Charges s (.next (if c then x else y)) := by
  split
  · exact hx
  · exact hy

variable (s)

theorem charges_cbPage (sub : Byte) : Charges s (cbPage sub s) := by
  obtain ⟨t, ht, -⟩ := cbPage_built s sub
  refine ⟨t, ht, ?_⟩
  obtain h | h | h := cbPage_cycles ht
  · exact ⟨2, by decide, by decide, h⟩
  · exact ⟨3, by decide, by decide, h⟩
  · exact ⟨4, by decide, by decide, h⟩

/-- Every instruction but an unknown opcode charges its count: no operation but the final charge touches it. -/
theorem charges_exec (i : Instr) : (∃ op, i = .unknown op) ∨ Charges s (exec i s) := by
  cases i using Instr.byForm
  case unknown op => exact .inl ⟨op, rfl⟩
  all_goals right
  case ldRegReg => rw [exec_ldRegReg]; exact .charge 1 rfl
  case ldRegMem => rw [exec_ldRegMem]; exact .charge 2 rfl
  case ldMemReg => rw [exec_ldMemReg]; exact .charge 2 (busWrite_cycles ..)
  case ldRegImm => rw [exec_ldRegImm]; exact .charge 2 rfl
  case ldPairImm => rw [exec_ldPairImm]; exact .charge 3 (State.setPair_cycles ..)
  case push => rw [exec_push]; exact .charge 4 (push16_cycles ..)
  case pop => rw [exec_pop]; exact .charge 3 (State.setStackPair_cycles ..)
  case aluReg => rw [exec_aluReg]; exact .charge 1 rfl
  case aluMem => rw [exec_aluMem]; exact .charge 2 rfl
  case aluImm => rw [exec_aluImm]; exact .charge 2 rfl
  case incReg => rw [exec_incReg]; exact .charge 1 rfl
  case decReg => rw [exec_decReg]; exact .charge 1 rfl
  case addHl => rw [exec_addHl]; exact .charge 2 rfl
  case incPair => rw [exec_incPair]; exact .charge 2 (State.setPair_cycles ..)
  case decPair => rw [exec_decPair]; exact .charge 2 (State.setPair_cycles ..)
  case rotReg => rw [exec_rotReg]; exact .charge 2 rfl
  case rotMem => rw [exec_rotMem]; exact .charge 4 (busWrite_cycles ..)
  case bitReg => rw [exec_bitReg]; exact .charge 2 rfl
  case bitMem => rw [exec_bitMem]; exact .charge 3 rfl
  case resReg => rw [exec_resReg]; exact .charge 2 rfl
  case resMem => rw [exec_resMem]; exact .charge 4 (busWrite_cycles ..)
  case setReg => rw [exec_setReg]; exact .charge 2 rfl
  case setMem => rw [exec_setMem]; exact .charge 4 (busWrite_cycles ..)
  case jpCond => rw [exec_jpCond]; exact .ite (.charge 4 rfl) (.charge 3 rfl)
  case jrCond => rw [exec_jrCond]; exact .ite (.charge 3 rfl) (.charge 2 rfl)
  case callCond => rw [exec_callCond]; exact .ite (.charge 6 (push16_cycles ..)) (.charge 3 rfl)
  case retCond => rw [exec_retCond]; exact .ite (.charge 5 rfl) (.charge 2 rfl)
  case rst => rw [exec_rst]; exact .charge 4 (push16_cycles ..)
  case ei => exact .charge 1 (by split <;> rfl)
  case prefixCb => exact charges_cbPage s _
  case nop | halt | di | rlca | rrca | rla | rra | daa | cpl | scf | ccf | jp_HL => exact .charge 1 rfl
  case ld_A_atBC | ld_A_atDE | ld_A_atC | ld_A_atHLinc | ld_A_atHLdec | ld_SP_HL => exact .charge 2 rfl
  case ldh_A_atA8 | ld_HL_SPe8 | jr_e8 => exact .charge 3 rfl
  case ld_A_atA16 | add_SP_e8 | jp_a16 | ret | reti => exact .charge 4 rfl
  case ld_atBC_A | ld_atDE_A | ld_atC_A | ld_atHLinc_A | ld_atHLdec_A => exact .charge 2 (busWrite_cycles ..)
  case ldh_atA8_A | ld_atHL_d8 | inc_atHL | dec_atHL => exact .charge 3 (busWrite_cycles ..)
  case ld_atA16_A => exact .charge 4 (busWrite_cycles ..)
  case ld_atA16_SP => exact .charge 5 ((busWrite_cycles ..).trans (busWrite_cycles ..))
  case call_a16 => exact .charge 6 (push16_cycles ..)

end

/-- Settles O8: `charges_exec`, and the event of an unknown opcode. -/
theorem everyInstructionCompletes : Obligations.EveryInstructionCompletes := by
  refine ⟨fun i s => ?_, rfl⟩
  obtain ⟨op, rfl⟩ | ⟨t, ht, hcharged⟩ := charges_exec s i
  · exact ⟨_, rfl, .inl ⟨op, rfl, rfl⟩⟩
  · exact ⟨t, ht, .inr hcharged⟩

/-! ## The cycles of a tick -/

theorem armLatch_cycles (arm : Bool) (s : State) : (armLatch arm s).cycles = s.cycles := by
  unfold armLatch
  split <;> rfl

theorem advancePeripherals_cycles (s : State) : (advancePeripherals s).cycles = s.cycles := by
  obtain ⟨_, _, _, -, -, -, h⟩ := advancePeripherals_eq s
  rw [h]

/-- The execute phase charges the cycles of the instruction it runs. -/
theorem executePhase_cycles {s t : State} (h : executePhase s = .next t) :
    t.cycles = s.cycles + s.cfg.unknownOpCycles ∨ ∃ k, 1 ≤ k ∧ k ≤ 6 ∧ t.cycles = s.cycles + 4 * k := by
  obtain ⟨u, hu, hcost⟩ := everyInstructionCompletes.1 (fetchInstr s) (fetched s)
  rw [executePhase_of_exec hu] at h
  cases h
  rw [advancePeripherals_cycles, armLatch_cycles]
  exact hcost.imp (fun ⟨_, _, hunknown⟩ => hunknown) id

theorem readyToFetch_eq (s : State) :
    readyToFetch s = if s.dispatches then dispatchTo (lowestSet s.pendingEnabled) ((s.setCycles 0).setHalted false)
      else (s.setCycles 0).setHalted false := rfl

/-- What the fetch finds charged: the cycles of a dispatch where there is one (60_exceptions.md R511). -/
theorem readyToFetch_cycles (s : State) :
    (readyToFetch s).cycles = if s.dispatches then s.cfg.intDispatchCycles else 0 := by
  rw [readyToFetch_eq]
  split
  · rw [dispatchTo_eq]
    exact Nat.zero_add _
  · rfl

/-- A dispatch is built of elementary updates once the latch and the pending bit are clear. -/
theorem dispatchTo_built (n : Nat) (s : State) : Built ((s.clearPending n).setIme false) (dispatchTo n s) :=
  .charge _ (.setPc _ (.push16 _ .refl))

theorem readyToFetch_kept (s : State) :
    (readyToFetch s).cfg = s.cfg ∧ (readyToFetch s).store.romBanks = s.store.romBanks := by
  rw [readyToFetch_eq]
  split
  · obtain ⟨hcfg, -, hbanks, -⟩ := (dispatchTo_built _ ((s.setCycles 0).setHalted false)).kept
    exact ⟨hcfg, hbanks⟩
  · exact ⟨rfl, rfl⟩

/-- The cycles of a tick: an idle one never dispatches; another charges a dispatch, if there is one, and an
instruction. -/
theorem step_cycles {s t : State} (h : step s = .next t) :
    (s.dispatches = false ∧ t.cycles = s.cfg.haltIdleCycles) ∨
    ∃ n, t.cycles = (if s.dispatches then s.cfg.intDispatchCycles else 0) + n ∧
      (n = s.cfg.unknownOpCycles ∨ ∃ k, 1 ≤ k ∧ k ≤ 6 ∧ n = 4 * k) := by
  obtain ⟨-, ⟨hidle, rfl⟩ | ⟨-, hexec⟩⟩ := step_next_cases h
  · have hdisp : s.dispatches = false := by
      by_contra hdisp
      rw [Bool.not_eq_false, State.dispatches, Bool.and_eq_true, decide_eq_true_eq] at hdisp
      rw [not_idles_of_wakes (wakes_of_pendingEnabled hdisp.2)] at hidle
      cases hidle
    exact .inl ⟨hdisp, by rw [idleTick_eq, advancePeripherals_cycles]⟩
  · have hcost := executePhase_cycles hexec
    rw [readyToFetch_cycles, (readyToFetch_kept s).1] at hcost
    obtain hunknown | ⟨k, h1, h6, hk⟩ := hcost
    · exact .inr ⟨_, hunknown, .inl rfl⟩
    · exact .inr ⟨_, hk, .inr ⟨k, h1, h6, rfl⟩⟩

/-- Settles O10: `step_cycles` at the counts of `CFG_REF`. -/
theorem stepCycleCount : Obligations.StepCycleCount := by
  intro s t hidle hunknown hdispatch hstep
  have hcost := step_cycles hstep
  rw [hidle, hunknown, hdispatch] at hcost
  obtain ⟨hdisp, hcycles⟩ | ⟨n, hcycles, hn⟩ := hcost
  · rw [hdisp, hcycles]
    decide
  · have hk : ∃ k, 1 ≤ k ∧ k ≤ 6 ∧ n = 4 * k := hn.elim (fun h => ⟨1, by decide, by decide, h⟩) id
    obtain ⟨k, h1, h6, rfl⟩ := hk
    rw [hcycles]
    split <;> omega

/-! ## Runs -/

/-- With an image loaded a step answers, and the configuration and the image stay (60_exceptions.md R504). -/
theorem step_completes {s : State} (hrom : s.store.romBanks ≠ 0) :
    ∃ t, step s = .next t ∧ t.cfg = s.cfg ∧ t.store.romBanks = s.store.romBanks := by
  have hkept (u : State) : (advancePeripherals u).cfg = u.cfg ∧ (advancePeripherals u).store = u.store := by
    obtain ⟨_, _, _, -, -, -, h⟩ := advancePeripherals_eq u
    rw [h]
    exact ⟨rfl, rfl⟩
  cases hidle : s.idles with
  | true =>
    obtain ⟨hcfg, hstore⟩ := hkept ((s.setCycles 0).charge s.cfg.haltIdleCycles)
    exact ⟨_, step_of_idles hrom hidle, hcfg, congrArg Store.romBanks hstore⟩
  | false =>
    obtain ⟨u, hu, hbuilt⟩ := executePhase_built (readyToFetch s)
    obtain ⟨hcfg, -, hbanks, -⟩ := hbuilt.kept
    obtain ⟨hcfg0, hbanks0⟩ := readyToFetch_kept s
    obtain ⟨hcfg1, hstore1⟩ := hkept u
    exact ⟨_, (step_of_not_idles hrom hidle).trans hu, hcfg1.trans (hcfg.trans hcfg0),
      (congrArg Store.romBanks hstore1).trans (hbanks.trans hbanks0)⟩

theorem step_refused_iff (s : State) : step s = .refused .noRomLoaded ↔ s.store.romBanks = 0 := by
  refine ⟨fun h => ?_, fun h => if_pos h⟩
  by_contra hrom
  obtain ⟨t, ht, -⟩ := step_completes hrom
  rw [ht] at h
  cases h

/-- In a well-formed configuration a tick charges a cycle at least. -/
theorem step_cycles_pos {s t : State} (hc : s.cfg.Sound) (h : step s = .next t) : 1 ≤ t.cycles := by
  have hidle := hc.haltIdle
  have hunknown := hc.unknownOp
  obtain ⟨-, hcycles⟩ | ⟨n, hcycles, hn⟩ := step_cycles h <;> omega

/-- A run that starts with a tick sums its cycles with those of the rest. -/
theorem runTicks_succ {s t u : State} {n k : Nat} (h : step s = .next t) (hrun : runTicks n t = .next (u, k)) :
    runTicks (n + 1) s = .next (u, t.cycles + k) := by
  rw [runTicks, h]
  exact congrArg (RunResult.after t.cycles) hrun

/-- With an image loaded a run of ticks answers. -/
theorem runTicks_completes (n : Nat) {s : State} (hrom : s.store.romBanks ≠ 0) :
    ∃ u k, runTicks n s = .next (u, k) := by
  induction n generalizing s with
  | zero => exact ⟨s, 0, rfl⟩
  | succ n ih =>
    obtain ⟨t, ht, -, hbanks⟩ := step_completes hrom
    obtain ⟨u, k, hrun⟩ := ih (s := t) (hbanks ▸ hrom)
    exact ⟨u, t.cycles + k, runTicks_succ ht hrun⟩

theorem runCycles_succ {s t u : State} {fuel total k : Nat} (htotal : 0 < total) (h : step s = .next t)
    (hrun : runCycles fuel (total - t.cycles) t = .next (u, k)) :
    runCycles (fuel + 1) total s = .next (u, t.cycles + k) := by
  rw [runCycles, if_neg (Nat.ne_of_gt htotal), h]
  exact congrArg (RunResult.after t.cycles) hrun

theorem runCycles_completes (fuel total : Nat) {s : State} (hrom : s.store.romBanks ≠ 0) :
    ∃ u k, runCycles fuel total s = .next (u, k) := by
  induction fuel generalizing total s with
  | zero => exact ⟨s, 0, rfl⟩
  | succ fuel ih =>
    obtain rfl | htotal := Nat.eq_zero_or_pos total
    · exact ⟨s, 0, if_pos rfl⟩
    obtain ⟨t, ht, -, hbanks⟩ := step_completes hrom
    obtain ⟨u, k, hrun⟩ := ih (total - t.cycles) (s := t) (hbanks ▸ hrom)
    exact ⟨u, t.cycles + k, runCycles_succ htotal ht hrun⟩

/-- With fuel for one cycle a tick, the ticks to a cycle total are the fewest that reach it (70_reset_and_hazards.md
R832). -/
theorem runCycles_shortest (fuel : Nat) {total : Nat} {s : State} (hc : s.cfg.Sound) (hrom : s.store.romBanks ≠ 0)
    (hfuel : total ≤ fuel) :
    ∃ n u k, runCycles fuel total s = .next (u, k) ∧ runTicks n s = .next (u, k) ∧ total ≤ k ∧
      ∀ m v j, m < n → runTicks m s = .next (v, j) → j < total := by
  induction fuel generalizing total s with
  | zero => exact ⟨0, s, 0, rfl, rfl, hfuel, fun m _ _ hm => absurd hm (Nat.not_lt_zero m)⟩
  | succ fuel ih =>
    obtain rfl | htotal := Nat.eq_zero_or_pos total
    · exact ⟨0, s, 0, rfl, rfl, Nat.le_refl 0, fun m _ _ hm => absurd hm (Nat.not_lt_zero m)⟩
    obtain ⟨t, ht, hcfg, hbanks⟩ := step_completes hrom
    have hpos := step_cycles_pos hc ht
    obtain ⟨n, u, k, hcycles, hticks, hreach, hfirst⟩ :=
      ih (total := total - t.cycles) (s := t) (hcfg ▸ hc) (hbanks ▸ hrom) (by omega)
    refine ⟨n + 1, u, t.cycles + k, runCycles_succ htotal ht hcycles, runTicks_succ ht hticks, by omega,
      fun m v j hm hrun => ?_⟩
    cases m with
    | zero =>
      cases hrun
      exact htotal
    | succ m =>
      obtain ⟨w, i, hw⟩ := runTicks_completes m (s := t) (hbanks ▸ hrom)
      have hlt := hfirst m w i (by omega) hw
      rw [runTicks_succ ht hw] at hrun
      cases hrun
      omega

theorem run_of_rom {s : State} (hrom : s.store.romBanks ≠ 0) (n : Nat) : run n s = runTicks n s := if_neg hrom

theorem runUntil_of_rom {s : State} (hrom : s.store.romBanks ≠ 0) (total : Nat) :
    runUntil total s = runCycles total total s := if_neg hrom

/-- Settles O9: with an image loaded every tick answers, so every run does; without one all are refused. -/
theorem everyStepCompletes : Obligations.EveryStepCompletes := by
  refine ⟨fun s => ⟨step_refused_iff s, fun hrom => ?_⟩, fun s n => ⟨⟨fun h => ?_, fun h => if_pos h⟩,
    ⟨fun h => ?_, fun h => if_pos h⟩⟩, fun s hrom => ⟨run_of_rom hrom 0, fun n => ?_⟩, fun s total hc hrom => ?_⟩
  · obtain ⟨t, ht, -⟩ := step_completes hrom
    exact ⟨t, ht⟩
  · by_contra hrom
    obtain ⟨u, k, hrun⟩ := runTicks_completes n hrom
    rw [run_of_rom hrom, hrun] at h
    cases h
  · by_contra hrom
    obtain ⟨u, k, hrun⟩ := runCycles_completes n n hrom
    rw [runUntil_of_rom hrom, hrun] at h
    cases h
  · obtain ⟨t, ht, -, hbanks⟩ := step_completes hrom
    have hrom' : t.store.romBanks ≠ 0 := hbanks ▸ hrom
    obtain ⟨u, k, hrun⟩ := runTicks_completes n hrom'
    exact ⟨t, u, k, ht, (run_of_rom hrom' n).trans hrun, (run_of_rom hrom (n + 1)).trans (runTicks_succ ht hrun)⟩
  · obtain ⟨n, u, k, hcycles, hticks, hreach, hfirst⟩ := runCycles_shortest total (Config.sound hc) hrom (Nat.le_refl _)
    exact ⟨n, u, k, (runUntil_of_rom hrom total).trans hcycles, (run_of_rom hrom n).trans hticks, hreach,
      fun m v j hm hrun => hfirst m v j hm ((run_of_rom hrom m).symm.trans hrun)⟩

end Sys2Proof.Machine
end

section
/-! PROOFS. Reset and construction (70_reset_and_hazards.md R800 to R803, R831). -/

namespace Sys2Proof.Machine

/-- Settles O16: what a reset keeps it keeps again, and what it assigns does not depend on what it replaces. -/
theorem resetIdempotent : Obligations.ResetIdempotent := by
  intro s
  have hcores : (hostReset (hostReset s)).spu.cores = (hostReset s).spu.cores := List.map_map ..
  exact congrArg (fun cores => { hostReset s with spu := { (hostReset s).spu with cores := cores } }) hcores

/-- The plain cells after a reset (70_reset_and_hazards.md R800). -/
theorem read_resetIoCells (c : Config) (o : Nat) :
    (resetIoCells c).read o = if o < 0x80 ∧ isPlainCell c o = true then c.resetIoByte o else 0#8 := by
  unfold resetIoCells Memory.read
  by_cases ho : o < 0x80
  · have hread := Cells.read_ofFn 0 0x80 (fun o => if isPlainCell c o then c.resetIoByte o else 0#8) ho
    rw [Nat.zero_add] at hread
    rw [hread]
    simp only [ho, true_and]
  · rw [Cells.read_ofFn_out _ _ _ (.inr (by omega)), if_neg fun h => ho h.1]

/-- Settles O15: the cores one by one, the plain cells by `read_resetIoCells`, the rest is the definition of the
reset. -/
theorem resetRule : Obligations.ResetRule := by
  have hsram (s : State) : (hostReset s).spu.cores.map SpuCore.sram = s.spu.cores.map SpuCore.sram := List.map_map ..
  have hcore (s : State) : ∀ k ∈ (hostReset s).spu.cores, k = { SpuCore.resetFor s.cfg with sram := k.sram } := by
    intro k hk
    obtain ⟨j, -, rfl⟩ := List.mem_map.1 hk
    rfl
  refine ⟨fun s => ?_, fun cfg => ⟨?_, fun s hs => ?_⟩, ?_⟩
  · refine ⟨rfl, rfl, rfl, rfl, hsram s, rfl, rfl, rfl, rfl, rfl, rfl, rfl, rfl, rfl, rfl, rfl, rfl, rfl, rfl, rfl, rfl,
      read_resetIoCells s.cfg, hcore s, fun hcfg => ?_⟩
    have hio : resetIoCells Config.ref = [] := by decide
    rw [← hcfg] at hio
    exact ⟨congrArg Regs.resetFor hcfg, congrArg Ppu.resetFor hcfg, hio,
      fun k hk => (hcore s k hk).trans (congrArg (fun c => { SpuCore.resetFor c with sram := k.sram }) hcfg)⟩
  · unfold construct
    cases cfg.wellFormed <;> simp
  · unfold construct at hs
    split at hs
    · cases hs
      refine ⟨rfl, rfl, rfl, rfl, by simp [hostReset], fun k hk => ?_, resetIdempotent _⟩
      obtain ⟨j, hj, rfl⟩ := List.mem_map.1 hk
      rw [List.eq_of_mem_replicate hj]
      rfl
    · cases hs
  · exact (if_pos wellFormed_ref).trans rfl

end Sys2Proof.Machine
end

section
/-! PROOFS. Loading a ROM and the checks on a blob (70_reset_and_hazards.md R834, R838, R839). -/

namespace Sys2Proof.Machine

/-! ## Loading a ROM -/

theorem romAcceptable_iff (valid : List Byte → Bool) (bytes : List Byte) :
    romAcceptable valid bytes = true ↔
      0x8000 ≤ bytes.length ∧ bytes.length % 0x4000 = 0 ∧ bytes.length ≤ 256 * 0x4000 ∧ valid bytes = true := by
  unfold romAcceptable Config.romBankSize
  simp only [Bool.and_eq_true, decide_eq_true_eq, and_assoc]

/-- An image loaded reads byte by byte, and zero beyond its end. -/
theorem read_ofFn_getD (bytes : List Byte) (i : Nat) :
    Memory.read (Cells.ofFn 0 bytes.length fun i => bytes.getD i 0#8) i = bytes.getD i 0#8 := by
  by_cases hi : i < bytes.length
  · have hread := Cells.read_ofFn 0 bytes.length (fun i => bytes.getD i 0#8) hi
    rwa [Nat.zero_add] at hread
  · rw [List.getD_eq_default _ _ (Nat.le_of_not_lt hi)]
    exact Cells.read_ofFn_out _ _ _ (.inr (by omega))

/-- The machine after `LoadRom` has taken an image (70_reset_and_hazards.md R834). -/
def romLoaded (bytes : List Byte) (s : State) : State :=
  s.setStore { s.store with
    romBanks := bytes.length / 0x4000, rom := Cells.ofFn 0 bytes.length fun i => bytes.getD i 0#8 }

/-- `LoadRom` is all or nothing. -/
theorem loadRom_eq (valid : List Byte → Bool) (bytes : List Byte) (s : State) :
    loadRom valid bytes s = if romAcceptable valid bytes then (true, romLoaded bytes s) else (false, s) := rfl

section
variable {s : State} (hm : s.cfg.memoryMap = MemoryMap.ref) {a : Word}
include hm

theorem busRead_ref_romFixed (ha : a.toNat ≤ 0x3FFF) : busRead s a = s.store.rom.read a.toNat :=
  (busAccess_of_region (region_ref_romFixed hm ha) 0#8).1

theorem busRead_ref_romSwitch (h1 : 0x4000 ≤ a.toNat) (h2 : a.toNat ≤ 0x7FFF) :
    busRead s a = s.store.rom.read (romIndex s (a.toNat - 0x4000)) :=
  (busAccess_of_region (region_ref_romSwitch hm h1 h2) 0#8).1

end

/-! ## Fields of a blob -/

theorem blobNat_two (b : List Byte) (off : Nat) :
    blobNat b off 2 = (blobByte b off).toNat + 256 * (blobByte b (off + 1)).toNat := by
  simp only [blobNat, Nat.mul_zero, Nat.add_zero]

theorem blobNat_four (b : List Byte) (off : Nat) :
    blobNat b off 4 = blobNat b off 2 + 65536 * blobNat b (off + 2) 2 := by
  simp only [blobNat, Nat.add_assoc, Nat.reduceAdd]
  omega

theorem blobBitOk_iff (b : List Byte) (off : Nat) : blobBitOk b off = true ↔ (blobByte b off).toNat ≤ 1 :=
  decide_eq_true_iff

/-! ## The checks of a blob, record by record -/

theorem registerRecordOk_iff (c : Config) (b : List Byte) :
    registerRecordOk c b = true ↔
      (blobByte b 65537).toNat % 16 = 0 ∧ (∀ i ∈ [65548, 65549, 65550, 65553], (blobByte b i).toNat ≤ 1) ∧
      (blobByte b 65552).toNat ≤ 15 ∧ blobNat b 65554 2 < c.divPeriod ∧ blobNat b 65556 2 < c.timaSubRange := by
  unfold registerRecordOk
  simp only [Bool.and_eq_true, decide_eq_true_eq, List.all_eq_true, blobBitOk_iff, and_0f_eq_iff, and_assoc]
  rfl

theorem ppuRecordOk_iff (c : Config) (b : List Byte) :
    ppuRecordOk c b = true ↔
      (blobByte b 65560).toNat ≤ 3 ∧
      blobNat b 65561 2 < (PpuMode.ofCode (blobByte b 65560).toNat).budget c ∧ (blobByte b 65563).toNat ≤ 153 ∧
      (143 < (blobByte b 65563).toNat → (blobByte b 65560).toNat = 0 ∨ (blobByte b 65560).toNat = 1) ∧
      ((blobByte b 65563).toNat < 144 → (blobByte b 65560).toNat ≠ 1) := by
  unfold ppuRecordOk
  simp only [Bool.and_eq_true, Bool.not_eq_true', Bool.and_eq_false_iff, Bool.not_eq_false', Bool.or_eq_true,
    decide_eq_true_eq, decide_eq_false_iff_not, and_assoc, ← imp_iff_not_or, or_comm (a := _ = 1)]

theorem spuGlobalsOk_iff (c : Config) (b : List Byte) :
    spuGlobalsOk c b = true ↔
      (∀ i ∈ [65568, 65569, 65570], (blobByte b i).toNat ≤ 1) ∧
      blobNat b 65572 4 < c.sramSamples ∧ blobNat b 65576 4 < c.sramSamples := by
  unfold spuGlobalsOk
  simp only [Bool.and_eq_true, decide_eq_true_eq, List.all_eq_true, blobBitOk_iff, and_assoc]

theorem voiceRecordOk_iff (c : Config) (b : List Byte) (v : Nat) :
    voiceRecordOk c b v = true ↔
      blobNat b (voiceOffset v + 12) 4 < c.sramSamples * c.pitchOne ∧ blobNat b (voiceOffset v + 16) 2 ≤ c.envMax ∧
      (blobByte b (voiceOffset v + 18)).toNat ≤ 1 ∧ (blobByte b (voiceOffset v + 19)).toNat ≤ 1 := by
  unfold voiceRecordOk
  simp only [Bool.and_eq_true, decide_eq_true_eq, blobBitOk_iff, and_assoc]

/-- The two windows of `CFG_REF` are the addresses below 0x8000. -/
theorem romImageOk_iff {s : State} (hm : s.cfg.memoryMap = MemoryMap.ref) (b : List Byte) :
    romImageOk b s = true ↔
      ∀ a : Word, a.toNat ≤ 0x7FFF →
        blobByte b a.toNat = busRead (s.setBank { s.bank with romBank := blobByte b 65551 }) a := by
  have hwindows : romImageOk b s = true ↔ ∀ r ∈ [MemoryMap.ref.romFixed, MemoryMap.ref.romSwitch], ∀ i < r.size,
      blobByte b (r.first + i) =
        busRead (s.setBank { s.bank with romBank := blobByte b 65551 }) (BitVec.ofNat 16 (r.first + i)) := by
    unfold romImageOk
    rw [hm]
    simp only [List.all_eq_true, List.mem_range, decide_eq_true_eq]
  have hfixed : MemoryMap.ref.romFixed.first = 0 ∧ MemoryMap.ref.romFixed.size = 0x4000 := by decide
  have hswitch : MemoryMap.ref.romSwitch.first = 0x4000 ∧ MemoryMap.ref.romSwitch.size = 0x4000 := by decide
  rw [hwindows, List.forall_mem_cons, List.forall_mem_singleton, hfixed.1, hfixed.2, hswitch.1, hswitch.2]
  constructor
  · rintro ⟨hlow, hhigh⟩ a ha
    have hword : BitVec.ofNat 16 a.toNat = a := (BitVec.ofNat_toNat 16 a).trans (BitVec.setWidth_eq a)
    rcases Nat.lt_or_ge a.toNat 0x4000 with h | h
    · have hbyte := hlow a.toNat h
      rwa [Nat.zero_add, hword] at hbyte
    · have hbyte := hhigh (a.toNat - 0x4000) (by omega)
      rwa [Nat.add_sub_of_le h, hword] at hbyte
  · intro h
    have hbelow {n : Nat} (hn : n < 0x8000) : blobByte b n =
        busRead (s.setBank { s.bank with romBank := blobByte b 65551 }) (BitVec.ofNat 16 n) := by
      have hword : (BitVec.ofNat 16 n).toNat = n := Nat.mod_eq_of_lt (by omega)
      have hbyte := h (BitVec.ofNat 16 n) (by omega)
      rwa [hword] at hbyte
    exact ⟨fun i hi => hbelow (by omega), fun i hi => hbelow (by omega)⟩

theorem blobOk_iff (b : List Byte) (s : State) :
    blobOk b s = true ↔
      b.length = blobSize s.cfg ∧ registerRecordOk s.cfg b = true ∧ ppuRecordOk s.cfg b = true ∧
      spuGlobalsOk s.cfg b = true ∧ (∀ v < s.cfg.nVoices, voiceRecordOk s.cfg b v = true) ∧ romImageOk b s = true := by
  unfold blobOk
  simp only [Bool.and_eq_true, decide_eq_true_eq, List.all_eq_true, List.mem_range, and_assoc]

theorem loadState_fst (b : List Byte) (s : State) : (loadState b s).1 = blobOk b s := by
  unfold loadState
  cases blobOk b s <;> rfl

theorem loadState_snd (b : List Byte) (s : State) :
    (loadState b s).2 = if blobOk b s then loadedState b s else s := by
  unfold loadState
  cases blobOk b s <;> rfl

/-! ## The size of a blob -/

/-- The core a blob carries is a core of a legal machine (70_reset_and_hazards.md R838). -/
theorem blobCore_legal {s : State} (hs : s.Inv) : (blobCore s).Legal s.cfg := by
  have hcount := hs.spu.count
  have hpos := (Config.sound hs.cfg).cores
  unfold blobCore
  cases hcores : s.spu.cores with
  | nil =>
    rw [hcores, List.length_nil] at hcount
    omega
  | cons k cores => exact hs.spu.cores k (hcores ▸ List.mem_cons_self)

theorem length_saveState_of_inv {s : State} (hs : s.Inv) : (saveState s).length = blobSize s.cfg := by
  rw [length_saveState, (blobCore_legal hs).count]
  rfl

/-- Settles O59. -/
theorem hostLoads : Obligations.HostLoads := by
  refine ⟨fun valid bytes s => ?_, fun _ => rfl,
    fun bytes s => ⟨fun h => ?_, fun h => ?_, fun hs _ => length_saveState_of_inv hs⟩,
    fun bytes s hm => ?_, ⟨rfl, rfl, rfl, rfl, rfl⟩, rfl⟩
  · rw [← romAcceptable_iff]
    rw [loadRom_eq]
    cases romAcceptable valid bytes with
    | false => exact ⟨.rfl, fun _ => rfl, nofun⟩
    | true =>
      refine ⟨.rfl, nofun, fun _ => ⟨rfl, fun hm => ⟨fun a ha => ?_, fun a h1 h2 => ?_⟩, rfl⟩⟩
      · exact (busRead_ref_romFixed (s := romLoaded bytes s) hm ha).trans (read_ofFn_getD bytes _)
      · exact (busRead_ref_romSwitch (s := romLoaded bytes s) hm h1 h2).trans (read_ofFn_getD bytes _)
  · rw [loadState_fst] at h
    rw [loadState_snd, h]
    rfl
  · rw [loadState_fst, ← Bool.not_eq_true, blobOk_iff]
    exact fun hok => h hok.1
  · intro at1 at2 at4 dots
    have hbudget (hmode : at1 65560 ≤ 3) : (PpuMode.ofCode (at1 65560)).budget s.cfg = dots := by
      unfold dots
      interval_cases at1 65560 <;> rfl
    rw [loadState_fst, blobOk_iff, registerRecordOk_iff, ppuRecordOk_iff, spuGlobalsOk_iff, romImageOk_iff hm]
    simp only [voiceRecordOk_iff, blobNat_four, blobNat_two, List.forall_mem_cons]
    constructor
    · rintro ⟨hlength, ⟨hf, ⟨h48, h49, h50, h53, -⟩, hbank, hdiv, htima⟩, ⟨hmode, hdot, hly, hvblank, hvisible⟩,
        ⟨⟨h68, h69, h70, -⟩, hirq, hxfer⟩, hvoices, hrom⟩
      exact ⟨hlength, ⟨h48, h49, h50, h53, h68, h69, h70, nofun⟩, hf, hbank, hdiv, htima, hmode, hbudget hmode ▸ hdot,
        hly, hvblank, hvisible, hirq, hxfer, hvoices, hrom⟩
    · rintro ⟨hlength, ⟨h48, h49, h50, h53, h68, h69, h70, -⟩, hf, hbank, hdiv, htima, hmode, hdot, hly,
        hvblank, hvisible, hirq, hxfer, hvoices, hrom⟩
      exact ⟨hlength, ⟨hf, ⟨h48, h49, h50, h53, nofun⟩, hbank, hdiv, htima⟩,
        ⟨hmode, (hbudget hmode).symm ▸ hdot, hly, hvblank, hvisible⟩,
        ⟨⟨h68, h69, h70, nofun⟩, hirq, hxfer⟩, hvoices, hrom⟩

end Sys2Proof.Machine
end

section
/-! PROOFS. What a load assigns, and the round trip of a save and a load (70_reset_and_hazards.md R838, R839). -/

namespace Sys2Proof.Machine

/-! ## A record at an offset of a blob -/

/-- The blob has these bytes from an offset on. -/
def HoldsAt (b : List Byte) : Nat → List Byte → Prop
  | _, [] => True
  | off, x :: r => blobByte b off = x ∧ HoldsAt b (off + 1) r

section
variable {b : List Byte}

theorem holdsAt_append {off : Nat} {l r : List Byte} :
    HoldsAt b off (l ++ r) ↔ HoldsAt b off l ∧ HoldsAt b (off + l.length) r := by
  induction l generalizing off with
  | nil => exact (iff_of_eq (true_and _)).symm
  | cons x l ih =>
    rw [List.cons_append, HoldsAt, HoldsAt, ih, and_assoc, List.length_cons, Nat.add_assoc, Nat.add_comm 1]

theorem holdsAt_of_getD {off : Nat} {r : List Byte} (h : ∀ i < r.length, blobByte b (off + i) = r.getD i 0#8) :
    HoldsAt b off r := by
  induction r generalizing off with
  | nil => trivial
  | cons x r ih =>
    refine ⟨h 0 (Nat.succ_pos _), ih fun i hi => ?_⟩
    rw [Nat.add_assoc, Nat.add_comm 1]
    exact h (i + 1) (Nat.succ_lt_succ hi)

/-- A byte of a record is the byte of the blob. -/
theorem HoldsAt.getElem? {off : Nat} {r : List Byte} (h : HoldsAt b off r) (hlength : off + r.length ≤ b.length)
    {i : Nat} (hi : i < r.length) : r[i]? = b[off + i]? := by
  induction r generalizing off i with
  | nil => cases hi
  | cons x r ih =>
    obtain ⟨hx, hr⟩ := h
    rw [List.length_cons] at hlength hi
    cases i with
    | zero =>
      have hoff : off < b.length := by omega
      rw [Nat.add_zero, List.getElem?_eq_getElem hoff, ← hx]
      exact congrArg some (List.getD_eq_getElem b 0#8 hoff)
    | succ i => rw [List.getElem?_cons_succ, ih hr (by omega) (by omega), Nat.add_assoc, Nat.add_comm 1]

/-- A byte of a part of a record is the byte of the blob. -/
theorem HoldsAt.getElem?_part {off : Nat} {l m r : List Byte} (h : HoldsAt b (off + l.length) m)
    (hlength : off + l.length + m.length ≤ b.length) {i : Nat} (h1 : l.length ≤ i) (h2 : i < l.length + m.length) :
    (l ++ m ++ r)[i]? = b[off + i]? := by
  obtain ⟨j, rfl⟩ := Nat.exists_eq_add_of_le h1
  rw [List.append_assoc, List.getElem?_append_right h1, Nat.add_sub_cancel_left, List.getElem?_append_left (by omega),
    h.getElem? hlength (by omega), Nat.add_assoc]

/-- A field holds the number it reads as. -/
theorem holdsAt_leBytes_blobNat (k off : Nat) : HoldsAt b off (leBytes k (blobNat b off k)) := by
  induction k generalizing off with
  | zero => trivial
  | succ k ih =>
    have hrest : blobNat b off (k + 1) / 256 = blobNat b (off + 1) k := by
      rw [blobNat, Nat.add_mul_div_left _ _ (by decide), Nat.div_eq_of_lt (BitVec.isLt _), Nat.zero_add]
    refine ⟨?_, by rw [hrest]; exact ih (off + 1)⟩
    rw [blobNat]
    exact BitVec.eq_of_toNat_eq (by rw [BitVec.toNat_ofNat]; omega)

theorem blobNat_lt (k off : Nat) : blobNat b off k < 256 ^ k := by
  induction k generalizing off with
  | zero => exact Nat.one_pos
  | succ k ih =>
    have hrest := ih (off + 1)
    rw [blobNat, Nat.pow_succ]
    omega

/-- A field reads as the number it holds. -/
theorem HoldsAt.blobNat_eq {k off n : Nat} (h : HoldsAt b off (leBytes k n)) (hn : n < 256 ^ k) :
    blobNat b off k = n := by
  induction k generalizing off n with
  | zero => exact (Nat.lt_one_iff.1 hn).symm
  | succ k ih =>
    obtain ⟨hx, hr⟩ := h
    rw [blobNat, hx, ih hr (by rw [Nat.pow_succ] at hn; omega), BitVec.toNat_ofNat]
    omega

/-- A one-bit field that holds 0 or 1 holds the truth value it reads as. -/
theorem blobByte_eq_bitByte {off : Nat} (h : (blobByte b off).toNat ≤ 1) :
    blobByte b off = bitByte (blobBit b off) := by
  have hbit : ∀ x : Byte, x.toNat ≤ 1 → x = bitByte (decide (x = 1#8)) := by decide
  exact hbit _ h

theorem toNat_bitByte_le (v : Bool) : (bitByte v).toNat ≤ 1 := by cases v <;> decide

theorem holdsAt_word (off : Nat) : HoldsAt b off (leBytes 2 (BitVec.ofNat 16 (blobNat b off 2)).toNat) := by
  rw [BitVec.toNat_ofNat, Nat.mod_eq_of_lt (show blobNat b off 2 < 2 ^ 16 from blobNat_lt 2 off)]
  exact holdsAt_leBytes_blobNat 2 off

end

/-! ## The records of a loaded machine -/

/-- The register record up to the byte of `ei_pending`. -/
def registerFront (u : State) : List Byte :=
  [u.regs.a, u.regs.f, u.regs.b, u.regs.c, u.regs.d, u.regs.e, u.regs.h, u.regs.l] ++
  leBytes 2 u.regs.sp.toNat ++ leBytes 2 u.regs.pc.toNat ++ [bitByte u.ime, bitByte u.halted]

/-- The register record after it, less the reserved bytes. -/
def registerBack (u : State) : List Byte :=
  [u.bank.romBank, u.bank.ramBank.setWidth 8, bitByte u.bank.ramEnable] ++
  leBytes 2 u.timer.divSub ++ leBytes 2 u.timer.timaSub

theorem registerRecord_eq (u : State) :
    registerRecord u = registerFront u ++ [bitByte u.eiPending] ++ registerBack u ++ [0#8, 0#8] := rfl

theorem code_ofCode {x : Byte} (h : x.toNat ≤ 3) : (PpuMode.ofCode x.toNat).code.setWidth 8 = x := by
  have hmode : ∀ x : Byte, x.toNat ≤ 3 → (PpuMode.ofCode x.toNat).code.setWidth 8 = x := by decide
  exact hmode x h

theorem ofCode_code (m : PpuMode) : PpuMode.ofCode (m.code.setWidth 8 : Byte).toNat = m := by cases m <;> rfl

theorem setWidth_four_of_le {x : Byte} (h : x.toNat ≤ 15) : (x.setWidth 4).setWidth 8 = x := by
  have hbank : ∀ x : Byte, x.toNat ≤ 15 → (x.setWidth 4).setWidth 8 = x := by decide
  exact hbank x h

section
variable {b : List Byte} {s : State}

theorem holdsAt_registerRecord (h : registerRecordOk s.cfg b = true) :
    HoldsAt b 65536 (registerFront (loadedState b s)) ∧ HoldsAt b 65550 [bitByte (blobBit b 65550)] ∧
    HoldsAt b 65551 (registerBack (loadedState b s)) := by
  obtain ⟨-, hbits, hbank, -⟩ := (registerRecordOk_iff s.cfg b).1 h
  simp only [List.forall_mem_cons] at hbits
  obtain ⟨hime, hhalted, hei, henable, -⟩ := hbits
  refine ⟨?_, ⟨blobByte_eq_bitByte hei, trivial⟩, ?_⟩
  · simp only [registerFront, holdsAt_append]
    exact ⟨⟨⟨⟨rfl, rfl, rfl, rfl, rfl, rfl, rfl, rfl, trivial⟩, holdsAt_word 65544⟩, holdsAt_word 65546⟩,
      blobByte_eq_bitByte hime, blobByte_eq_bitByte hhalted, trivial⟩
  · simp only [registerBack, holdsAt_append]
    exact ⟨⟨⟨rfl, (setWidth_four_of_le hbank).symm, blobByte_eq_bitByte henable, trivial⟩,
      holdsAt_leBytes_blobNat 2 65554⟩, holdsAt_leBytes_blobNat 2 65556⟩

theorem holdsAt_ppuRecord (h : ppuRecordOk s.cfg b = true) :
    HoldsAt b 65560
      ([(blobPpu s.cfg b).mode.code.setWidth 8] ++ leBytes 2 (blobPpu s.cfg b).dot ++ [(blobPpu s.cfg b).ly]) := by
  obtain ⟨hmode, -⟩ := (ppuRecordOk_iff s.cfg b).1 h
  simp only [holdsAt_append]
  exact ⟨⟨⟨(code_ofCode hmode).symm, trivial⟩, holdsAt_leBytes_blobNat 2 65561⟩, rfl, trivial⟩

theorem holdsAt_spuGlobals {c : Config} (h : spuGlobalsOk c b = true) :
    HoldsAt b 65568 [bitByte (blobSpuCore c b).reverbEnable, bitByte (blobSpuCore c b).irqEnable,
      bitByte (blobSpuCore c b).irqFlag] ∧
    HoldsAt b 65572 (leBytes 4 (blobSpuCore c b).irqAddr ++ leBytes 4 (blobSpuCore c b).xferAddr) := by
  obtain ⟨hbits, -⟩ := (spuGlobalsOk_iff c b).1 h
  simp only [List.forall_mem_cons] at hbits
  obtain ⟨hreverb, henable, hflag, -⟩ := hbits
  exact ⟨⟨blobByte_eq_bitByte hreverb, blobByte_eq_bitByte henable, blobByte_eq_bitByte hflag, trivial⟩,
    holdsAt_append.2 ⟨holdsAt_leBytes_blobNat 4 65572, holdsAt_leBytes_blobNat 4 65576⟩⟩

/-- The voice record less the reserved bytes. -/
def voiceFields (v : Voice) : List Byte :=
  leBytes 2 v.volume.toNat ++ leBytes 2 v.pitch.toNat ++ leBytes 2 v.attack.toNat ++ leBytes 2 v.decay.toNat ++
  leBytes 2 v.sustain.toNat ++ leBytes 2 v.release.toNat ++ leBytes 4 v.pos ++ leBytes 2 v.env ++
  [bitByte v.keyOn, bitByte v.keyOff]

theorem holdsAt_voiceFields {c : Config} {v : Nat} (h : voiceRecordOk c b v = true) :
    HoldsAt b (voiceOffset v) (voiceFields (blobVoice b v)) := by
  obtain ⟨-, -, hon, hoff⟩ := (voiceRecordOk_iff c b v).1 h
  simp only [voiceFields, holdsAt_append]
  exact ⟨⟨⟨⟨⟨⟨⟨⟨holdsAt_word _, holdsAt_word _⟩, holdsAt_word _⟩, holdsAt_word _⟩, holdsAt_word _⟩, holdsAt_word _⟩,
    holdsAt_leBytes_blobNat 4 _⟩, holdsAt_leBytes_blobNat 2 _⟩, blobByte_eq_bitByte hon,
    blobByte_eq_bitByte hoff, trivial⟩

end

/-! ## The memory of a loaded machine -/

/-- The regions whose bytes a load takes from the image: the memory but for the ROM, and the plain cells of the I/O file
(70_reset_and_hazards.md R839). -/
def Region.InImage (cfg : Config) : Region → Prop
  | .vram _ | .wramFixed _ | .wramSwitch _ | .oam _ | .hram _ => True
  | .eram _ => cfg.ramBanks ≠ 0
  | .io o => isPlainCell cfg o = true
  | .romFixed _ | .romSwitch _ | .unmapped | .ie => False

theorem read_blobArray {r : Range} {o : Nat} (h : r.has (r.first + o) = true) (b : List Byte) :
    (blobArray b r).read o = blobByte b (r.first + o) := by
  have hread := Cells.read_ofFn 0 r.size (fun i => blobByte b (r.first + i)) (Range.offset_lt h (Nat.le_refl _))
  rwa [Nat.zero_add] at hread

/-- The external RAM of a loaded machine: the selected bank is that of the image. -/
theorem eram_loadedState {b : List Byte} {s : State} (h : s.cfg.ramBanks ≠ 0) :
    (loadedState b s).store.eram =
      Cells.fill s.store.eram (((blobBank b).ramBank.toNat % s.cfg.ramBanks) * Config.ramBankSize)
        s.cfg.memoryMap.eram.size fun i => blobByte b (s.cfg.memoryMap.eram.first + i) := if_neg h

/-- The plain cells of a loaded machine are those of the image. -/
theorem ioRead_loadedState {b : List Byte} {s : State} {o : Nat} (ho : o < 0x80) (h : isPlainCell s.cfg o = true) :
    ioRead (loadedState b s) o (ioReg s.cfg o) = blobIo s.cfg b o := by
  have hread := Cells.read_ofFn 0 0x80 (fun i => if isPlainCell s.cfg i then blobIo s.cfg b i else 0#8) ho
  rw [Nat.zero_add, if_pos h] at hread
  unfold isPlainCell at h
  rw [Bool.or_eq_true, decide_eq_true_eq, decide_eq_true_eq] at h
  obtain h | h := h <;>
  · rw [h]
    exact hread

/-- A loaded machine reads the image there. -/
theorem busRead_loadedState {b : List Byte} {s : State} (hm : s.cfg.memoryMap.wellFormed = true) {a : Word}
    (h : (region s.cfg a).InImage s.cfg) :
    busRead (loadedState b s) a = blobByte b (unecho s.cfg.memoryMap a.toNat) := by
  have hnames := region_names s.cfg a
  have hoffset := region_offset hm a
  show regionRead (loadedState b s) (region s.cfg a) = _
  revert h hnames hoffset
  generalize unecho s.cfg.memoryMap a.toNat = n
  cases region s.cfg a <;> intro h hnames hoffset
  case romFixed | romSwitch | unmapped | ie => cases h
  case eram o =>
    obtain ⟨hhas, rfl⟩ := hnames
    show (if s.cfg.ramBanks = 0 then 0#8 else (loadedState b s).store.eram.read (eramIndex (loadedState b s) o)) = _
    rw [if_neg h, eram_loadedState h]
    exact Cells.read_fill_in _ _ _ _ (Range.offset_lt hhas (Nat.le_refl _))
  case io o =>
    obtain ⟨-, rfl⟩ := hnames
    exact ioRead_loadedState hoffset h
  all_goals
    obtain ⟨hhas, rfl⟩ := hnames
    exact read_blobArray hhas b

/-- The external RAM banks that are not selected are kept. -/
theorem read_eram_loadedState {b : List Byte} {s : State} (hsize : s.cfg.memoryMap.eram.size = 0x2000) {k : Nat}
    (hk : s.cfg.ramBanks = 0 ∨ k / 0x2000 ≠ (blobBank b).ramBank.toNat % s.cfg.ramBanks) :
    (loadedState b s).store.eram.read k = s.store.eram.read k := by
  by_cases h : s.cfg.ramBanks = 0
  · exact congrArg (Memory.read · k) (if_pos h)
  · have hout := hk.resolve_left h
    rw [eram_loadedState h, hsize]
    refine Cells.read_fill_out _ _ _ _ ?_
    unfold Config.ramBankSize
    omega

/-- The sample RAM of a loaded machine is that of the blob. -/
theorem read_sram_blobSpuCore (c : Config) (b : List Byte) {i : Nat} (hi : i < c.sramSamples) :
    (blobSpuCore c b).sram.read i = BitVec.ofNat 16 (blobNat b (sampleOffset c + 2 * i) 2) := by
  have hread := Cells.read_ofFn 0 c.sramSamples (fun i => BitVec.ofNat 16 (blobNat b (sampleOffset c + 2 * i) 2)) hi
  rwa [Nat.zero_add] at hread

theorem ofNat_blobNat_two (b : List Byte) (off : Nat) :
    BitVec.ofNat 16 (blobNat b off 2) = blobByte b (off + 1) ++ blobByte b off := by
  apply BitVec.eq_of_toNat_eq
  have hsum : blobNat b off 2 % 2 ^ 16 = (blobByte b (off + 1)).toNat <<< 8 + (blobByte b off).toNat := by
    rw [blobNat_two, Nat.shiftLeft_eq]
    omega
  rw [BitVec.toNat_append, ← Nat.shiftLeft_add_eq_or_of_lt (blobByte b off).isLt, BitVec.toNat_ofNat, hsum]

/-! ## A saved blob -/

/-- The blob carries the machine: its parts hold the image, the records and the samples (70_reset_and_hazards.md
R838). -/
structure Saved (b : List Byte) (s : State) : Prop where
  length : b.length = blobSize s.cfg
  image : ∀ a : Word, blobByte b a.toNat = busRead s a
  registers : HoldsAt b 65536 (registerRecord s)
  ppu : HoldsAt b 65560 (ppuRecord s)
  globals : HoldsAt b 65568 (spuGlobals (blobCore s))
  voices : ∀ v (h : v < (blobCore s).voices.length), HoldsAt b (voiceOffset v) (voiceRecord (blobCore s).voices[v])
  samples : ∀ i < s.cfg.sramSamples,
    HoldsAt b (sampleOffset s.cfg + 2 * i) (leBytes 2 ((blobCore s).sram.read i).toNat)

theorem saved_saveState {s : State} (hs : s.Inv) : Saved (saveState s) s where
  length := length_saveState_of_inv hs
  image a := by
    have hword : BitVec.ofNat 16 a.toNat = a := (BitVec.ofNat_toNat 16 a).trans (BitVec.setWidth_eq a)
    rw [saveState_image s a.isLt, hword]
  registers := holdsAt_of_getD fun _ => saveState_registers s
  ppu := holdsAt_of_getD fun _ => saveState_ppu s
  globals := holdsAt_of_getD fun _ => saveState_globals s
  voices _ hv := holdsAt_of_getD fun _ => saveState_voice s hv
  samples _ hi := holdsAt_of_getD fun _ => saveState_sample s (blobCore_legal hs).count hi

/-- What `fitsBlob` says: every field of a legal machine fits its bytes (70_reset_and_hazards.md R838). -/
theorem fitsBlob_iff (c : Config) :
    fitsBlob c = true ↔ c.divPeriod ≤ 65536 ∧ c.timaSubRange ≤ 65536 ∧ c.lineCycles ≤ 65536 ∧
      c.sramSamples * c.pitchOne ≤ 4294967296 ∧ c.envMax ≤ 65535 ∧ c.nSpuCores = 1 := by
  unfold fitsBlob
  simp only [Bool.and_eq_true, decide_eq_true_eq, and_assoc]

section
variable {b : List Byte} {s : State} (h : Saved b s) (hs : s.Inv) (hfit : fitsBlob s.cfg = true)
include h hs hfit

/-- What the register record of a saved blob reads as. -/
theorem Saved.registerFields :
    blobRegs b = s.regs ∧ blobBank b = s.bank ∧
    blobNat b 65554 2 = s.timer.divSub ∧ blobNat b 65556 2 = s.timer.timaSub ∧
    blobByte b 65548 = bitByte s.ime ∧ blobByte b 65549 = bitByte s.halted ∧ blobByte b 65550 = bitByte s.eiPending ∧
    blobByte b 65552 = s.bank.ramBank.setWidth 8 ∧ blobByte b 65553 = bitByte s.bank.ramEnable := by
  obtain ⟨hdiv, htima, -⟩ := (fitsBlob_iff s.cfg).1 hfit
  have hdivSub := hs.timer.divSub
  have htimaSub := hs.timer.timaSub
  have hrecord := h.registers
  simp only [registerRecord, holdsAt_append, HoldsAt, List.length_append, List.length_cons, List.length_nil,
    length_leBytes, Nat.reduceAdd, and_true] at hrecord
  obtain ⟨⟨⟨⟨⟨⟨⟨⟨ha, hf, hb, hc, hd, he, hh, hl⟩, hsp⟩, hpc⟩, hime, hhalted, hei⟩, hromBank, hramBank, henable⟩,
    hdiv'⟩, htima'⟩, -⟩ := hrecord
  have hspEq := hsp.blobNat_eq s.regs.sp.isLt
  have hpcEq := hpc.blobNat_eq s.regs.pc.isLt
  refine ⟨?_, ?_, hdiv'.blobNat_eq (by omega), htima'.blobNat_eq (by omega), hime, hhalted, hei, hramBank, henable⟩
  · simp only [blobRegs, ha, hf, hb, hc, hd, he, hh, hl, hspEq, hpcEq, BitVec.ofNat_toNat, BitVec.setWidth_eq]
  · simp only [blobBank, hromBank, hramBank, (blobBit_bitByte henable).1,
      BitVec.setWidth_setWidth_of_le _ (by decide : 4 ≤ 8), BitVec.setWidth_eq]

/-- What the PPU record of a saved blob reads as. -/
theorem Saved.ppuFields :
    blobByte b 65560 = s.ppu.mode.code.setWidth 8 ∧ blobNat b 65561 2 = s.ppu.dot ∧ blobByte b 65563 = s.ppu.ly := by
  obtain ⟨-, -, hline, -⟩ := (fitsBlob_iff s.cfg).1 hfit
  have hdot : s.ppu.dot < 256 ^ 2 := by
    have hbudget : s.ppu.mode.budget s.cfg ≤ 65536 := by
      cases s.ppu.mode
      case oamScan => exact (by decide : 80 ≤ 65536)
      case pixelTransfer => exact (by decide : 172 ≤ 65536)
      case hblank => exact (by decide : 204 ≤ 65536)
      case vblank => exact hline
    exact Nat.lt_of_lt_of_le hs.ppu.dot hbudget
  have hrecord := h.ppu
  simp only [ppuRecord, holdsAt_append, HoldsAt, List.length_append, List.length_cons, List.length_nil,
    length_leBytes, Nat.reduceAdd, and_true] at hrecord
  obtain ⟨⟨⟨hmode, hdot'⟩, hly⟩, -⟩ := hrecord
  exact ⟨hmode, hdot'.blobNat_eq hdot, hly⟩

/-- What the record of the globals of a saved blob reads as. -/
theorem Saved.globalFields :
    blobByte b 65568 = bitByte (blobCore s).reverbEnable ∧ blobByte b 65569 = bitByte (blobCore s).irqEnable ∧
    blobByte b 65570 = bitByte (blobCore s).irqFlag ∧ blobNat b 65572 4 = (blobCore s).irqAddr ∧
    blobNat b 65576 4 = (blobCore s).xferAddr := by
  obtain ⟨-, -, -, hsamples, -⟩ := (fitsBlob_iff s.cfg).1 hfit
  have hcore := blobCore_legal hs
  have hirq := hcore.irqAddr
  have hxfer := hcore.xferAddr
  have hpitch := Nat.le_mul_of_pos_right s.cfg.sramSamples (Config.sound hs.cfg).pitchOne
  have hrecord := h.globals
  simp only [spuGlobals, holdsAt_append, HoldsAt, List.length_append, List.length_cons, List.length_nil,
    length_leBytes, Nat.reduceAdd, and_true] at hrecord
  obtain ⟨⟨⟨⟨hreverb, henable, hflag, -⟩, hirq'⟩, hxfer'⟩, -⟩ := hrecord
  exact ⟨hreverb, henable, hflag, hirq'.blobNat_eq (by omega), hxfer'.blobNat_eq (by omega)⟩

/-- A voice record of a saved blob reads as the voice, in legal one-bit fields. -/
theorem Saved.voiceFields {v : Nat} (hv : v < (blobCore s).voices.length) :
    blobVoice b v = (blobCore s).voices[v] ∧
    blobByte b (voiceOffset v + 18) = bitByte (blobCore s).voices[v].keyOn ∧
    blobByte b (voiceOffset v + 19) = bitByte (blobCore s).voices[v].keyOff := by
  obtain ⟨-, -, -, hsamples, henvMax, -⟩ := (fitsBlob_iff s.cfg).1 hfit
  have hlegal := (blobCore_legal hs).voices _ (List.getElem_mem hv)
  have hpos := hlegal.pos
  have henv := hlegal.env
  have hrecord := h.voices v hv
  generalize (blobCore s).voices[v] = x at hpos henv hrecord
  simp only [voiceRecord, holdsAt_append, HoldsAt, List.length_append, List.length_cons, List.length_nil,
    length_leBytes, Nat.reduceAdd, and_true] at hrecord
  obtain ⟨⟨⟨⟨⟨⟨⟨⟨⟨hvolume, hpitch⟩, hattack⟩, hdecay⟩, hsustain⟩, hrelease⟩, hpos'⟩, henv'⟩, hon, hoff⟩, -⟩ := hrecord
  have word {off : Nat} {w : BitVec 16} (hw : HoldsAt b off (leBytes 2 w.toNat)) :
      BitVec.ofNat 16 (blobNat b off 2) = w := by
    rw [hw.blobNat_eq w.isLt, BitVec.ofNat_toNat, BitVec.setWidth_eq]
  refine ⟨?_, hon, hoff⟩
  simp only [blobVoice, word hvolume, word hpitch, word hattack, word hdecay, word hsustain, word hrelease,
    hpos'.blobNat_eq (by omega), henv'.blobNat_eq (by omega), (blobBit_bitByte hon).1, (blobBit_bitByte hoff).1]

/-! ## A saved blob passes the checks -/

theorem Saved.registerRecordOk : registerRecordOk s.cfg b = true := by
  obtain ⟨hregs, hbank, hdivSub, htimaSub, hime, hhalted, hei, hramBank, henable⟩ := h.registerFields hs hfit
  have hf : blobByte b 65537 = s.regs.f := congrArg Regs.f hregs
  have hram : (blobByte b 65552).toNat ≤ 15 := by
    have hfour : ∀ x : BitVec 4, (x.setWidth 8).toNat ≤ 15 := by decide
    rw [hramBank]
    exact hfour _
  simp only [registerRecordOk_iff, List.forall_mem_cons, hdivSub, htimaSub, hime, hhalted, hei, henable,
    toNat_bitByte_le, hf]
  exact ⟨(and_0f_eq_iff _ 0#8).1 hs.regs, ⟨trivial, trivial, trivial, trivial, nofun⟩, hram, hs.timer.divSub,
    hs.timer.timaSub⟩

theorem Saved.ppuRecordOk : ppuRecordOk s.cfg b = true := by
  obtain ⟨hmode, hdot, hly⟩ := h.ppuFields hs hfit
  rw [ppuRecordOk_iff, hmode, hdot, hly, ofCode_code]
  refine ⟨?_, hs.ppu.dot, hs.ppu.lineBound, ?_⟩
  · cases s.ppu.mode <;> decide
  · cases hlcdc : s.ppu.lcdc.getLsbD 7 with
    | false =>
      rw [hs.ppu.disabled hlcdc]
      exact ⟨fun _ => .inl rfl, fun _ => by decide⟩
    | true =>
      have hline := hs.ppu.line hlcdc
      revert hline
      cases s.ppu.mode <;> intro hline <;> simp only [PpuMode.lineLegal] at hline
      case vblank => exact ⟨fun _ => .inr rfl, fun hvisible => by omega⟩
      all_goals exact ⟨fun hblank => by omega, fun _ => by decide⟩

theorem Saved.spuGlobalsOk : spuGlobalsOk s.cfg b = true := by
  obtain ⟨hreverb, henable, hflag, hirq, hxfer⟩ := h.globalFields hs hfit
  have hcore := blobCore_legal hs
  simp only [spuGlobalsOk_iff, List.forall_mem_cons, hreverb, henable, hflag, hirq, hxfer, toNat_bitByte_le]
  exact ⟨⟨trivial, trivial, trivial, nofun⟩, hcore.irqAddr, hcore.xferAddr⟩

theorem Saved.voiceRecordOk {v : Nat} (hv : v < s.cfg.nVoices) : voiceRecordOk s.cfg b v = true := by
  have hcore := blobCore_legal hs
  rw [← hcore.count] at hv
  obtain ⟨hvoice, hon, hoff⟩ := h.voiceFields hs hfit hv
  have hlegal := hcore.voices _ (List.getElem_mem hv)
  rw [← hvoice] at hlegal
  rw [voiceRecordOk_iff, hon, hoff]
  exact ⟨hlegal.pos, hlegal.env, toNat_bitByte_le _, toNat_bitByte_le _⟩

end

/-- Below 0x8000 a bus read sees the ROM image and the bank register only. -/
theorem busRead_rom_congr {s t : State} (hm : s.cfg.memoryMap = MemoryMap.ref) (hcfg : t.cfg = s.cfg)
    (hrom : t.store.rom = s.store.rom) (hbanks : t.store.romBanks = s.store.romBanks)
    (hbank : t.bank.romBank = s.bank.romBank) {a : Word} (ha : a.toNat ≤ 0x7FFF) : busRead t a = busRead s a := by
  have hm' : t.cfg.memoryMap = MemoryMap.ref := hcfg ▸ hm
  rcases Nat.lt_or_ge a.toNat 0x4000 with h | h
  · rw [busRead_ref_romFixed hm (by omega), busRead_ref_romFixed hm' (by omega), hrom]
  · rw [busRead_ref_romSwitch hm h ha, busRead_ref_romSwitch hm' h ha, hrom, romIndex, romIndex, hbanks, hbank]

/-- The interrupt bits of `STAT` are bits 6 to 3 of what it reads as (20_memory.md R95). -/
theorem stat_of_readStat (p : Ppu) : (p.readStat >>> 3).setWidth 4 = p.stat := by
  have hbits : ∀ (x : BitVec 4) (y : BitVec 1) (z : BitVec 2),
      (((0#1 ++ x ++ y ++ z : BitVec 8)) >>> 3).setWidth 4 = x := by decide
  exact hbits _ _ _

section
variable {b : List Byte} {s t : State} (h : Saved b s) (hs : s.Inv) (hfit : fitsBlob s.cfg = true)
  (hm : s.cfg.memoryMap = MemoryMap.ref)
include h hm

/-- A register of the I/O file in the image of a saved blob is what a bus read of it answered. -/
theorem Saved.blobIo_eq {o : Nat} (ho : o < 0x80) : blobIo s.cfg b o = ioRead s o (ioReg s.cfg o) := by
  have haddr : (BitVec.ofNat 16 (0xFF00 + o)).toNat = 0xFF00 + o := Nat.mod_eq_of_lt (by omega)
  unfold blobIo
  rw [hm, show MemoryMap.ref.io.first = 0xFF00 from rfl, ← haddr, h.image]
  exact (busAccess_ref_ioReg hm o _ haddr ho rfl 0#8).1

include hs hfit

theorem Saved.blobTimer_eq : blobTimer s.cfg b = s.timer := by
  obtain ⟨-, -, hdivSub, htimaSub, -⟩ := h.registerFields hs hfit
  have reg (o : Nat) (ho : o < 0x80) := h.blobIo_eq hm ho
  have htac : blobIo s.cfg b 0x07 = s.timer.tac.setWidth 8 := reg 0x07 (by decide)
  unfold blobTimer
  rw [show blobIo s.cfg b 0x04 = s.timer.div from reg 0x04 (by decide),
    show blobIo s.cfg b 0x05 = s.timer.tima from reg 0x05 (by decide),
    show blobIo s.cfg b 0x06 = s.timer.tma from reg 0x06 (by decide), htac, hdivSub, htimaSub,
    BitVec.setWidth_setWidth_of_le _ (by decide), BitVec.setWidth_eq]

theorem Saved.blobPpu_eq : blobPpu s.cfg b = { s.ppu with fb := [] } := by
  obtain ⟨hmode, hdot, hly⟩ := h.ppuFields hs hfit
  have reg (o : Nat) (ho : o < 0x80) := h.blobIo_eq hm ho
  have hstat : blobIo s.cfg b 0x41 = s.ppu.readStat := reg 0x41 (by decide)
  unfold blobPpu
  rw [hmode, ofCode_code, hdot, hly, hstat, stat_of_readStat,
    show blobIo s.cfg b 0x40 = s.ppu.lcdc from reg 0x40 (by decide),
    show blobIo s.cfg b 0x42 = s.ppu.scy from reg 0x42 (by decide),
    show blobIo s.cfg b 0x43 = s.ppu.scx from reg 0x43 (by decide),
    show blobIo s.cfg b 0x45 = s.ppu.lyc from reg 0x45 (by decide),
    show blobIo s.cfg b 0x47 = s.ppu.bgp from reg 0x47 (by decide),
    show blobIo s.cfg b 0x48 = s.ppu.obp0 from reg 0x48 (by decide),
    show blobIo s.cfg b 0x49 = s.ppu.obp1 from reg 0x49 (by decide),
    show blobIo s.cfg b 0x4A = s.ppu.wy from reg 0x4A (by decide),
    show blobIo s.cfg b 0x4B = s.ppu.wx from reg 0x4B (by decide)]

end

/-! ## The machine loaded from a saved blob -/

/-- The views of the components in the I/O file (20_memory.md R86) see the timer, the PPU registers, `IF` and the bank
state. -/
theorem ioRead_congr {u s : State} (htimer : u.timer = s.timer) (hppu : u.ppu = { s.ppu with fb := [] })
    (hif : u.ifReg = s.ifReg) (hbank : u.bank = s.bank) (o : Nat) {r : IoReg} (hspu : r ≠ .spu) (hplain : r ≠ .plain)
    (hdma : r ≠ .dma) : ioRead u o r = ioRead s o r := by
  cases r
  case spu => exact absurd rfl hspu
  case plain => exact absurd rfl hplain
  case dma => exact absurd rfl hdma
  case stat =>
    have hstat := congrArg Ppu.readStat hppu
    exact hstat
  all_goals simp only [ioRead, htimer, hppu, hif, hbank]

/-- The un-echoed name of an address reads the same byte (20_memory.md R80). -/
theorem exists_unechoed {s : State} (hm : s.cfg.memoryMap = MemoryMap.ref) (a : Word) :
    ∃ c : Word, c.toNat = unecho MemoryMap.ref a.toNat ∧ busRead s c = busRead s a := by
  rw [unecho_ref]
  split
  next hecho =>
    obtain ⟨h1, h2⟩ := hecho
    refine ⟨a - 0x2000#16, by bv_omega, ?_⟩
    exact (congrArg (regionRead s) (region_ref_echo hm h1 h2)).symm
  next => exact ⟨a, rfl, rfl⟩

section
variable {b : List Byte} {s t : State} (h : Saved b s) (hs : s.Inv) (hfit : fitsBlob s.cfg = true)
  (hm : s.cfg.memoryMap = MemoryMap.ref) (hcfg : t.cfg = s.cfg)
include h hs hfit hcfg

theorem Saved.bits_eq :
    (loadedState b t).ime = s.ime ∧ (loadedState b t).halted = s.halted ∧
    (loadedState b t).eiPending = s.eiPending := by
  obtain ⟨-, -, -, -, hime, hhalted, hei, -⟩ := h.registerFields hs hfit
  refine ⟨(blobBit_bitByte hime).1, (blobBit_bitByte hhalted).1, ?_⟩
  show (t.cfg.eiDelay && blobBit b 65550) = s.eiPending
  rw [(blobBit_bitByte hei).1, hcfg]
  have hlatch := hs.eiLatch
  cases hpending : s.eiPending with
  | false => exact Bool.and_false _
  | true => rw [hlatch hpending]; rfl

include hm

theorem Saved.components_eq :
    (loadedState b t).bank = s.bank ∧ (loadedState b t).timer = s.timer ∧
    (loadedState b t).ppu = { s.ppu with fb := [] } ∧ (loadedState b t).ifReg = s.ifReg ∧
    (loadedState b t).ieReg = s.ieReg := by
  have back (x : BitVec 5) : (x.setWidth 8).setWidth 5 = x := by
    rw [BitVec.setWidth_setWidth_of_le _ (by decide), BitVec.setWidth_eq]
  have hif : blobIo s.cfg b 0x0F = s.ifReg.setWidth 8 := h.blobIo_eq hm (by decide)
  have hie : blobByte b 0xFFFF = s.ieReg.setWidth 8 :=
    (h.image 0xFFFF#16).trans (busAccess_of_region (region_ref_ie hm) 0#8).1
  obtain ⟨-, hbank, -⟩ := h.registerFields hs hfit
  refine ⟨hbank, ?_, ?_, ?_, ?_⟩
  · show blobTimer t.cfg b = s.timer
    rw [hcfg, h.blobTimer_eq hs hfit hm]
  · show blobPpu t.cfg b = _
    rw [hcfg, h.blobPpu_eq hs hfit hm]
  · show (blobIo t.cfg b 0x0F).setWidth 5 = s.ifReg
    rw [hcfg, hif, back]
  · show (blobByte b t.cfg.memoryMap.ie).setWidth 5 = s.ieReg
    rw [hcfg, hm, show MemoryMap.ref.ie = 0xFFFF from rfl, hie, back]

section
variable (hrom : t.store.rom = s.store.rom) (hbanks : t.store.romBanks = s.store.romBanks)
include hrom hbanks

theorem Saved.blobOk : blobOk b t = true := by
  obtain ⟨-, hbank, -⟩ := h.registerFields hs hfit
  rw [blobOk_iff, romImageOk_iff (hcfg ▸ hm), hcfg]
  refine ⟨h.length, h.registerRecordOk hs hfit, h.ppuRecordOk hs hfit, h.spuGlobalsOk hs hfit,
    fun v hv => h.voiceRecordOk hs hfit hv, fun a ha => ?_⟩
  rw [h.image]
  have hromBank := congrArg Bank.romBank hbank
  have hread := busRead_rom_congr (t := t.setBank { t.bank with romBank := blobByte b 65551 }) hm hcfg hrom hbanks
    hromBank ha
  exact hread.symm

/-- Where a load takes nothing from the image, the components answer as before the save. -/
theorem Saved.regionRead_eq {r : Region} (himage : ¬r.InImage s.cfg) (hspu : ∀ o, r = .io o → ioReg s.cfg o ≠ .spu) :
    regionRead (loadedState b t) r = regionRead s r := by
  obtain ⟨hbank, htimer, hppu, hif, hie⟩ := h.components_eq hs hfit hm hcfg
  cases r
  case romFixed o => exact congrArg (Memory.read · o) hrom
  case romSwitch o =>
    show t.store.rom.read (romIndex (loadedState b t) o) = s.store.rom.read (romIndex s o)
    rw [hrom, romIndex, romIndex, hbank, show (loadedState b t).store.romBanks = s.store.romBanks from hbanks]
  case eram o =>
    have hnone : s.cfg.ramBanks = 0 := not_not.1 himage
    exact (if_pos (hcfg ▸ hnone)).trans (if_pos hnone).symm
  case unmapped => rfl
  case io o =>
    show ioRead (loadedState b t) o (ioReg t.cfg o) = ioRead s o (ioReg s.cfg o)
    rw [hcfg]
    have hplain : ¬(ioReg s.cfg o = .plain ∨ ioReg s.cfg o = .dma) :=
      fun hcell => himage (by simpa [Region.InImage, isPlainCell] using hcell)
    exact ioRead_congr htimer hppu hif hbank o (hspu o rfl) (fun hp => hplain (.inl hp)) fun hd => hplain (.inr hd)
  case ie => exact congrArg (BitVec.setWidth 8) hie
  all_goals exact absurd trivial himage

/-- Every bus read answers as before the save, but for the free values of the mapped addresses (log 16). -/
theorem Saved.busRead_eq {a : Word} (ha : spuMapped s.cfg a = false) : busRead (loadedState b t) a = busRead s a := by
  by_cases himage : (region s.cfg a).InImage s.cfg
  · obtain ⟨c, hc, hread⟩ := exists_unechoed hm a
    rw [busRead_loadedState (by rw [hcfg, hm]; decide) (by rwa [hcfg]), hcfg, hm, ← hc, h.image, hread]
  · have hregion : region (loadedState b t).cfg a = region s.cfg a := congrArg (region · a) hcfg
    unfold busRead
    rw [hregion]
    refine h.regionRead_eq hs hfit hm hcfg hrom hbanks himage fun o ho hspu => ?_
    unfold spuMapped at ha
    rw [ho] at ha
    exact absurd (decide_eq_true hspu) (Bool.eq_false_iff.1 ha)

end

end

/-- The one core of the machine is the core of the blob. -/
theorem cores_of_fitsBlob {b : List Byte} {s t : State} (hs : s.Inv) (hfit : fitsBlob s.cfg = true)
    (hcfg : t.cfg = s.cfg) (hone : t.spu.cores.length = 1) :
    (loadedState b t).spu.cores = [blobSpuCore s.cfg b] ∧ s.spu.cores = [blobCore s] := by
  obtain ⟨-, -, -, -, -, hcores⟩ := (fitsBlob_iff s.cfg).1 hfit
  obtain ⟨k, hk⟩ := List.length_eq_one_iff.1 (hs.spu.count.trans hcores)
  obtain ⟨k', hk'⟩ := List.length_eq_one_iff.1 hone
  constructor
  · show blobSpuCore t.cfg b :: t.spu.cores.tail = _
    rw [hcfg, hk']
    rfl
  · unfold blobCore
    rw [hk]
    rfl

section
variable {b : List Byte} {s : State} (h : Saved b s) (hs : s.Inv)
include h hs

theorem Saved.sram_eq : (blobSpuCore s.cfg b).sram = (blobCore s).sram := by
  have hsram := (blobCore_legal hs).sram
  refine Cells.eq_of_read_eq (Cells.wf_ofFn _ _ _) hsram.1 fun i => ?_
  rcases Nat.lt_or_ge i s.cfg.sramSamples with hi | hi
  · rw [read_sram_blobSpuCore _ _ hi, (h.samples i hi).blobNat_eq (BitVec.isLt _), BitVec.ofNat_toNat,
      BitVec.setWidth_eq]
  · rw [Cells.read_of_within hsram hi]
    exact Cells.read_ofFn_out _ _ _ (.inr (by omega))

theorem Saved.voices_eq (hfit : fitsBlob s.cfg = true) : (blobSpuCore s.cfg b).voices = (blobCore s).voices := by
  have hcount := (blobCore_legal hs).count
  refine List.ext_getElem (by simp [blobSpuCore, hcount]) fun v _ hv => ?_
  obtain ⟨hvoice, -⟩ := h.voiceFields hs hfit hv
  simp only [blobSpuCore, List.getElem_map, List.getElem_range, hvoice]

end

/-! ## The machine loaded from any blob -/

section
variable {b : List Byte} {s : State} (hok : blobOk b s = true)
include hok

/-- The records lie inside an accepted blob. -/
theorem length_of_blobOk : 65584 + 24 * s.cfg.nVoices + 2 * s.cfg.sramSamples = b.length := by
  obtain ⟨hlength, -⟩ := (blobOk_iff b s).1 hok
  exact hlength.symm

theorem getElem?_registerRecord {i : Nat} (hi : i < 22) (hei : i ≠ 14 ∨ s.cfg.eiDelay = true) :
    (registerRecord (loadedState b s))[i]? = b[65536 + i]? := by
  have hlength := length_of_blobOk hok
  obtain ⟨-, hregisters, -⟩ := (blobOk_iff b s).1 hok
  obtain ⟨hfront, hlatch, hback⟩ := holdsAt_registerRecord hregisters
  rw [registerRecord_eq]
  rcases Nat.lt_trichotomy i 14 with h | rfl | h
  · rw [List.append_assoc, List.append_assoc]
    exact HoldsAt.getElem?_part (l := []) hfront (show 65550 ≤ _ by omega) (Nat.zero_le _)
      (show i < 0 + 14 by omega)
  · have hdelay : s.cfg.eiDelay = true := hei.resolve_left (not_not.2 rfl)
    have hpending : (loadedState b s).eiPending = blobBit b 65550 := by
      show (s.cfg.eiDelay && blobBit b 65550) = _
      rw [hdelay, Bool.true_and]
    rw [← hpending] at hlatch
    rw [List.append_assoc]
    exact HoldsAt.getElem?_part hlatch (show 65551 ≤ _ by omega) le_rfl (Nat.lt_succ_self _)
  · exact HoldsAt.getElem?_part (l := registerFront (loadedState b s) ++ [bitByte (loadedState b s).eiPending]) hback
      (show 65558 ≤ _ by omega) h hi

theorem getElem?_ppuRecord {i : Nat} (hi : i < 4) : (ppuRecord (loadedState b s))[i]? = b[65560 + i]? := by
  have hlength := length_of_blobOk hok
  obtain ⟨-, -, hppu, -⟩ := (blobOk_iff b s).1 hok
  exact HoldsAt.getElem?_part (l := []) (holdsAt_ppuRecord hppu) (show 65564 ≤ _ by omega) (Nat.zero_le _) hi

theorem getElem?_spuGlobals {i : Nat} (hi : i < 12) (hreserved : i ≠ 3) :
    (spuGlobals (blobCore (loadedState b s)))[i]? = b[65568 + i]? := by
  have hlength := length_of_blobOk hok
  obtain ⟨-, -, -, hglobals, -⟩ := (blobOk_iff b s).1 hok
  obtain ⟨hbits, haddresses⟩ := holdsAt_spuGlobals hglobals
  rcases Nat.lt_or_ge i 3 with h | h
  · exact HoldsAt.getElem?_part (l := []) hbits (show 65571 ≤ _ by omega) (Nat.zero_le _) h
  · exact HoldsAt.getElem?_part
      (l := [bitByte (blobSpuCore s.cfg b).reverbEnable, bitByte (blobSpuCore s.cfg b).irqEnable,
        bitByte (blobSpuCore s.cfg b).irqFlag, 0#8]) haddresses
      (show 65580 ≤ _ by omega) (show 4 ≤ i by omega) hi

theorem getElem?_voiceRecord {v i : Nat} (hv : v < s.cfg.nVoices) (hi : i < 20) :
    ((blobCore (loadedState b s)).voices[v]?.bind fun x => (voiceRecord x)[i]?) = b[65584 + 24 * v + i]? := by
  have hlength := length_of_blobOk hok
  obtain ⟨-, -, -, -, hvoices, -⟩ := (blobOk_iff b s).1 hok
  have hvoice : (blobCore (loadedState b s)).voices[v]? = some (blobVoice b v) := by
    show ((List.range s.cfg.nVoices).map (blobVoice b))[v]? = _
    rw [List.getElem?_map, List.getElem?_range hv]
    rfl
  rw [hvoice]
  exact HoldsAt.getElem?_part (l := []) (holdsAt_voiceFields (hvoices v hv))
    (show 65584 + 24 * v + 20 ≤ _ by omega) (Nat.zero_le _) hi

end

/-- The memory of a loaded machine, in the map of `CFG_REF` (70_reset_and_hazards.md R839). -/
theorem busRead_ref_loadedState {b : List Byte} {s : State} (hm : s.cfg.memoryMap = MemoryMap.ref) {a : Word}
    (ha : (0x8000 ≤ a.toNat ∧ a.toNat ≤ 0x9FFF) ∨ (0xC000 ≤ a.toNat ∧ a.toNat ≤ 0xDFFF) ∨
      (0xFE00 ≤ a.toNat ∧ a.toNat ≤ 0xFE9F) ∨ (0xFF80 ≤ a.toNat ∧ a.toNat ≤ 0xFFFE) ∨
      (0xA000 ≤ a.toNat ∧ a.toNat ≤ 0xBFFF ∧ s.cfg.ramBanks ≠ 0)) :
    busRead (loadedState b s) a = blobByte b a.toNat := by
  have himage : (region s.cfg a).InImage s.cfg := by
    obtain ⟨h1, h2⟩ | ⟨h1, h2⟩ | ⟨h1, h2⟩ | ⟨h1, h2⟩ | ⟨h1, h2, hbanks⟩ := ha
    · rw [region_ref_vram hm h1 h2]
      trivial
    · rcases Nat.lt_or_ge a.toNat 0xD000 with h | h
      · rw [region_ref_wramFixed hm h1 (by omega)]
        trivial
      · rw [region_ref_wramSwitch hm h h2]
        trivial
    · rw [region_ref_oam hm h1 h2]
      trivial
    · rw [region_ref_hram hm h1 h2]
      trivial
    · rw [region_ref_eram hm h1 h2]
      exact hbanks
  have hecho : unecho MemoryMap.ref a.toNat = a.toNat := (unecho_ref _).trans (if_neg (by omega))
  rw [busRead_loadedState (by rw [hm]; decide) himage, hm, hecho]

/-- Settles O60: an accepted blob part by part, and the blob of a legal machine, which is accepted. -/
theorem loadRestores : Obligations.LoadRestores := by
  refine ⟨fun b s hm haccepted => ?_, fun s t hs hm hfit hcfg hrom hbanks hone => ?_⟩
  · have hok : blobOk b s = true := (loadState_fst b s).symm.trans haccepted
    have hu : (loadState b s).2 = loadedState b s := by rw [loadState_snd, if_pos hok]
    rw [hu]
    refine ⟨fun i => getElem?_registerRecord hok, fun i => getElem?_ppuRecord hok, fun i => getElem?_spuGlobals hok,
      fun v i => getElem?_voiceRecord hok, fun i hi => ?_, fun a => busRead_ref_loadedState hm, ?_, ?_, rfl, rfl, rfl,
      fun k => read_eram_loadedState (by rw [hm]; rfl), rfl, rfl, rfl, rfl, rfl, rfl, rfl⟩
    · exact (read_sram_blobSpuCore _ _ hi).trans (ofNat_blobNat_two b _)
    · show (blobByte b s.cfg.memoryMap.ie).setWidth 5 = _
      rw [hm]
      rfl
    · show (blobByte b (s.cfg.memoryMap.io.first + 0x0F)).setWidth 5 = _
      rw [hm]
      rfl
  · have h := saved_saveState hs
    have hok := h.blobOk hs hfit hm hcfg hrom hbanks
    have hu : (loadState (saveState s) t).2 = loadedState (saveState s) t := by rw [loadState_snd, if_pos hok]
    obtain ⟨hregs, -⟩ := h.registerFields hs hfit
    obtain ⟨hime, hhalted, hei⟩ := h.bits_eq hs hfit hcfg
    obtain ⟨hbank, htimer, hppu, hif, hie⟩ := h.components_eq hs hfit hm hcfg
    obtain ⟨hloaded, hsaved⟩ := cores_of_fitsBlob (b := saveState s) hs hfit hcfg hone
    rw [hu]
    refine ⟨(loadState_fst _ _).trans hok, fun a => h.busRead_eq hs hfit hm hcfg hrom hbanks, hregs, hime, hhalted, hei,
      hif, hie, hbank, htimer, hppu, ?_, ?_⟩
    · rw [hloaded, hsaved]
      exact congrArg (fun m => [m]) (h.sram_eq hs)
    · rw [hloaded, hsaved]
      exact congrArg (fun l => [l]) (h.voices_eq hs hfit)

end Sys2Proof.Machine
end
